-- ==== Sys2Proof/Word.lean ====
section
/-! DEFINITION. The word types of the WKV-624: a byte of the Request Link, a run-second count. -/

namespace Sys2Proof

/-- One byte of a select period or of a reply (R189, R195). -/
abbrev Byte := BitVec 8

/-- A run-second count: it runs to 4,294,967,295 (R3). -/
abbrev RunSec := BitVec 32

/-- Run seconds from `t` to `now`; the count goes round at 2^32 (log 7). -/
def RunSec.since (now t : RunSec) : Nat := (now - t).toNat

end Sys2Proof
end

