-- ==== Sys2Proof/Syntax.lean ====
section
/-! DEFINITION. The commands of the WKV-624: one constructor for each row of spec/opcode_table.json.
The table gives its rows neither fields nor bits. The operands here are what the row's rule reads from outside the part:
the bytes of a select period, a line's edge, a supply condition, and the time since the command before (log 2, log 26). -/

namespace Sys2Proof

/-- The two external time sources (02, section 3.1). -/
inductive Ref where
  | a
  | b
  deriving DecidableEq, Repr

/-- A direction of change of a line: the chosen edge of a pulse (R21), a change of CHn_MON (R172). -/
inductive Edge where
  | rising
  | falling
  deriving DecidableEq, Repr

/-- A select period that brings a request, as the link judges it when SEL_N rises (R189, R190).
`elapsed` is the time since the command before, in FIN periods. `fields` are the whole bytes after the code byte. `extra` counts the SCLK cycles
beyond the last whole byte. `stale` says that the period was already in progress when the last start was taken. -/
structure Period where
  elapsed : Nat
  fields  : List Byte
  extra   : Fin 8
  stale   : Bool
  deriving DecidableEq, Repr

/-- The fault line of channel `channel` has stood at the level its command tells, without a break, for `stood` microseconds (R155). -/
structure FaultTelling where
  channel : Fin 4
  stood   : Nat
  deriving DecidableEq, Repr

/-- The fraction of the run second in progress, in periods of the 32.768 kHz counter (R18, R180). -/
abbrev Ticks := Fin 32768

/-- The commands, in the order of spec/opcode_table.json. `elapsed` is always in FIN periods since the command before. `pulse` is the length of the pulse
in microseconds that the edge begins (R21). -/
inductive Instr where
  | readStatus (p : Period)
  | clearAttention (p : Period)
  | setAttentionEnables (p : Period)
  | resetPart (p : Period) (fraction : Ticks)
  | readTime (p : Period)
  | setTime (p : Period)
  | adoptReference (p : Period)
  | configureReference (p : Period)
  | readReference (p : Period)
  | defineProfile (p : Period)
  | clearProfile (p : Period)
  | readProfile (p : Period)
  | enterChange (p : Period)
  | amendChange (p : Period)
  | withdrawChange (p : Period)
  | retireChange (p : Period)
  | readChange (p : Period)
  | findChange (p : Period)
  | configureChannel (p : Period)
  | carrierOn (p : Period)
  | goOnAir (p : Period)
  | hold (p : Period)
  | resume (p : Period)
  | carrierOff (p : Period)
  | clearFault (p : Period)
  | readChannel (p : Period)
  | measureDelay (p : Period)
  | readMeasurement (p : Period)
  | unknownRequest (code : Byte) (p : Period)
  | replyRead (elapsed bytes : Nat) (extra : Fin 8) (stale : Bool)
  | requestCompletion (elapsed : Nat)
  | stationSecond
  | channelSecondStart (n : Fin 4)
  | holdoverBandReached
  | runSecond (elapsed : Nat)
  | historyTimeExpiry (n : Fin 4)
  | referenceEdge (elapsed : Nat) (r : Ref) (edge : Edge) (pulse : Nat)
  | noEdge (r : Ref)
  | referenceCharacter (elapsed : Nat) (r : Ref) (value : Byte) (parity stop : Bool)
  | lateMessage (r : Ref)
  | faultActive (elapsed : Nat) (line : FaultTelling)
  | faultInactive (elapsed : Nat) (line : FaultTelling)
  | sampleWindowClose
  | vddLoss (elapsed : Nat) (fraction : Ticks) (vbatGood : Bool)
  | powerUp (fraction : Ticks) (fselHigh : Bool)
  | resetNLow (elapsed : Nat) (fraction : Ticks)
  | resetNRelease (fraction : Ticks)
  | vbatLow
  | keyingTimedChange (n : Fin 4)
  | monitorEdge (elapsed : Nat) (n : Fin 4) (edge : Edge)
  deriving DecidableEq, Repr

end Sys2Proof
end

