-- ==== Sys2Proof/WellFormed.lean ====
section
/-! DEFINITION. Which terms are commands of the part. The operand types carry every bound but one:
the code of an UNKNOWN_REQUEST is none of the codes of the formats table and not 0x00 (R189, R190). -/

namespace Sys2Proof

/-- The request codes of the formats table (11, section 12.3). -/
def requestCodes : List Byte :=
  [0x01, 0x02, 0x03, 0x04, 0x10, 0x11, 0x12, 0x13, 0x14, 0x20, 0x21, 0x22] ++
  [0x30, 0x31, 0x32, 0x33, 0x34, 0x35] ++
  [0x40, 0x41, 0x42, 0x43, 0x44, 0x45, 0x46, 0x47, 0x48, 0x49]

/-- A code that makes a period an unknown request: a request (not 0x00, R189) whose code no row of the formats table has (R190). -/
def unknownCode (code : Byte) : Bool :=
  code != 0 && !requestCodes.contains code

/-- A command is well formed unless it is an UNKNOWN_REQUEST with a code that is 0x00 or known. -/
def Instr.wellFormed : Instr → Bool
  | .unknownRequest code _ => unknownCode code
  | _ => true

end Sys2Proof
end

