-- ==== Sys2Proof/Decode.lean ====
section
/-! DEFINITION. What a select period's bytes spell (R189), and the words of the table: spec/opcode_table.json gives no row any bits, so no word spells a command. -/

namespace Sys2Proof

/-- The request of a code with the period that brings it (11, section 12.3); a code of no row of the formats table is an unknown request (R190). `fraction` is the
retention counter's, which RESET PART reads (R183). -/
def requestOf (code : Byte) (fraction : Ticks) (p : Period) : Instr :=
  match code.toNat with
  | 0x01 => .readStatus p
  | 0x02 => .clearAttention p
  | 0x03 => .setAttentionEnables p
  | 0x04 => .resetPart p fraction
  | 0x10 => .readTime p
  | 0x11 => .setTime p
  | 0x12 => .adoptReference p
  | 0x13 => .configureReference p
  | 0x14 => .readReference p
  | 0x20 => .defineProfile p
  | 0x21 => .clearProfile p
  | 0x22 => .readProfile p
  | 0x30 => .enterChange p
  | 0x31 => .amendChange p
  | 0x32 => .withdrawChange p
  | 0x33 => .retireChange p
  | 0x34 => .readChange p
  | 0x35 => .findChange p
  | 0x40 => .configureChannel p
  | 0x41 => .carrierOn p
  | 0x42 => .goOnAir p
  | 0x43 => .hold p
  | 0x44 => .resume p
  | 0x45 => .carrierOff p
  | 0x46 => .clearFault p
  | 0x47 => .readChannel p
  | 0x48 => .measureDelay p
  | 0x49 => .readMeasurement p
  | _ => .unknownRequest code p

/-- The command that a select period is, read from the whole bytes that the controller wrote on SDI: a reply read where the first is 0x00, and otherwise the request of
that code with the bytes after it as its fields. A period without a whole byte is ignored, as a reply read of 0 bytes is (R189, log 26). -/
def selectPeriod (fraction : Ticks) (elapsed : Nat) (sdi : List Byte) (extra : Fin 8) (stale : Bool) : Instr :=
  match sdi with
  | [] => .replyRead elapsed 0 extra stale
  | code :: fields =>
    if code = 0 then .replyRead elapsed (fields.length + 1) extra stale
    else requestOf code fraction { elapsed := elapsed, fields := fields, extra := extra, stale := stale }

/-- The command that a word spells by the table's bits: none, for no row gives bits. -/
def decodeTableWord (_nbits _w : Nat) : Option Instr := none

end Sys2Proof
end

