-- ==== Sys2Proof/Config.lean ====
section
/-! DEFINITION. The free values: what the manual leaves open and no proof may see (logs 13, 14, 15). -/

namespace Sys2Proof

/-- The UTC minute an adoption places when the reference's label, its year completed with the held century, names a day that
the month does not have (R2, R8 state no result there; log 13). The argument is the completed year, and the label's month, day, hour and minute. -/
opaque Config.absentDayMinute : Nat → Nat → Nat → Nat → Nat → Nat

/-- The resume start of a channel that becomes RESUMING while the part holds no station time, as the minute, the second and
the microseconds, applied to the channel and the run-second count (R152, R159 state no result there; log 14). A channel takes at most one in a run second. -/
opaque Config.timelessResumeStart : Nat → Nat → Nat × Nat × Nat

/-- Whether a warm start's elapsed time that is no whole number of microseconds is taken up to the next one, applied to the elapsed
count of 32.768 kHz periods (R18 bounds the result to one period and states no rounding; log 15). -/
opaque Config.ticksRoundUp : Nat → Bool

end Sys2Proof
end

