-- ==== Sys2Proof/Machine/State.lean ====
section
/-! DEFINITION. The state of the WKV-624: everything the manual gives the part, as plain data, and its values after a cold start.
Outputs that are a view of other state (CHn_CARRIER, READY, ATTN_N) have no field; Flags.lean and Channels.lean compute them. -/

namespace Sys2Proof.Machine

/-- Four like things, one for each channel or profile 0 to 3. -/
structure Four (α : Type) where
  c0 : α
  c1 : α
  c2 : α
  c3 : α
  deriving DecidableEq, Repr

/-- A UTC minute, counted from 2000-01-01 00:00, and a second in it; 60 only in an inserted leap second (00, section 1.5). -/
structure UtcSecond where
  minute : Nat
  second : Nat
  deriving DecidableEq, Repr

/-- Station time to the microsecond (00, section 1.5). -/
structure Moment where
  minute : Nat
  second : Nat
  phase  : Nat
  deriving DecidableEq, Repr

/-- A date and time with its weekday, 1 (Monday) to 7 (Sunday). -/
structure Civil where
  year    : Nat
  month   : Nat
  day     : Nat
  hour    : Nat
  minute  : Nat
  weekday : Nat
  deriving DecidableEq, Repr

/-! ### Timebase and Retention Domain -/

/-- The timebase states (R5). -/
inductive TbState where
  | unset
  | free
  | locked
  | holdover
  deriving DecidableEq, Repr

/-- The timebase's record (01): `time` is the second in progress, `elapsed` and `length` its FIN periods so far and in all, `carried` the
remainder in ns that came into it and `remainder` the one it hands on (R1), `measured` the e below 0 that sets the correction of the second about to
begin, and `slewed` says that the second in progress has a measured correction, the last of the window (R7, log 28). -/
structure Timebase where
  state         : TbState
  time          : Option UtcSecond
  elapsed       : Nat
  length        : Nat
  carried       : Int
  remainder     : Int
  measured      : Option Int
  slewed        : Bool
  phaseError    : Int
  window        : List Int
  holdoverStart : Option RunSec
  grade         : Nat
  gradeChanged  : Bool
  fselHigh      : Bool
  deriving DecidableEq, Repr

/-- The loss record (R180). -/
structure Loss where
  time     : Option Moment
  run      : RunSec
  fraction : Ticks
  deriving DecidableEq, Repr

/-- What the Retention Domain holds of its own (R180); the calendar, the profiles, the channels' configurations and histories and the references'
configurations have their one home in the blocks that own them. `loss` is none once a start has cleared it. -/
structure Retention where
  runSeconds : RunSec
  fraction   : Ticks
  century    : Nat
  loss       : Option Loss
  marker     : Bool
  deriving DecidableEq, Repr

/-! ### Reference Monitor -/

/-- The reference states (R27). -/
inductive RefState where
  | off
  | acquiring
  | qualified
  deriving DecidableEq, Repr

/-- The verdicts (R25). -/
inductive Verdict where
  | good
  | noEdge
  | offTime
  | noMessage
  | lineError
  | badLabel
  | invalid
  deriving DecidableEq, Repr

/-- A label as a message carries it: two year digits, month, day, hour, minute, second (02, section 3.3). -/
structure Label where
  year   : Nat
  month  : Nat
  day    : Nat
  hour   : Nat
  minute : Nat
  second : Nat
  deriving DecidableEq, Repr

/-- A label with the status flags that came with it. -/
structure Message where
  label      : Label
  timeValid  : Bool
  leapInsert : Bool
  leapDelete : Bool
  deriving DecidableEq, Repr

/-- One reference's record (02, section 3.1). `anchor` is in microseconds of the interval counter. `carried` marks an adoption carried
to the next GOOD edge (R31). -/
structure RefRecord where
  enabled              : Bool
  polarity             : Edge
  priority             : Nat
  state                : RefState
  goodRun              : Nat
  faultRun             : Nat
  candidateRun         : Nat
  anchor               : Option Nat
  lastLabel            : Option Message
  lastVerdict          : Option Verdict
  agreement            : Bool
  disagreementReported : Bool
  leapMismatch         : Bool
  assembly             : List Byte
  held                 : Option Message
  lineError            : Bool
  carried              : Bool
  deriving DecidableEq, Repr

/-- The Reference Monitor. `firstEdge` says that the selection was made from none and that its first GOOD edge is still to come (R30). -/
structure Monitor where
  a         : RefRecord
  b         : RefRecord
  revertive : Bool
  selection : Option Ref
  firstEdge : Bool
  deriving DecidableEq, Repr

/-! ### Profile Table and Change Calendar -/

/-- One civil profile (R38). -/
structure Profile where
  defined   : Bool
  labelCode : Nat
  offset    : Int
  summer    : Bool
  deriving DecidableEq, Repr

/-- The five kinds of entry (R49). -/
inductive Kind where
  | offsetChange
  | leapInsert
  | leapDelete
  | interruption
  | advisory
  deriving DecidableEq, Repr

/-- An entry's kind with the payload fields of that kind and no others (R49). A channel set has bit n for channel n. -/
inductive Payload where
  | offsetChange (profile : Fin 4) (offset : Int) (summer : Bool)
  | leapInsert
  | leapDelete
  | interruption (channels : BitVec 4) (duration : Nat)
  | advisory (channels : BitVec 4) (number : Nat)
  deriving DecidableEq, Repr

/-- The states of an entry (R64 to R71). -/
inductive EntryState where
  | scheduled
  | announcing
  | committed
  | inEffect
  | done
  | withdrawn
  deriving DecidableEq, Repr

/-- The outcomes of a DONE entry (R55). -/
inductive EntryOutcome where
  | onTime
  | overtaken
  | cutShort
  deriving DecidableEq, Repr

/-- One calendar entry (R49). `instant` is the effective instant as a UTC minute; `late` and `leapExecuted` stay clear for the kinds that have no such mark. -/
structure Entry where
  ident        : Nat
  payload      : Payload
  state        : EntryState
  instant      : Nat
  lead         : Nat
  level        : Nat
  autoRetire   : Bool
  locked       : Bool
  late         : Bool
  leapExecuted : Bool
  outcome      : Option EntryOutcome
  deriving DecidableEq, Repr

/-- The Change Calendar: the entries in calendar order (R56), the announcement ring first to last (R61), the next ident (R58). -/
structure Calendar where
  entries   : List Entry
  ring      : List Nat
  nextIdent : Nat
  deriving DecidableEq, Repr

/-! ### Notice Arbiter, Frame Composer, Channel Controllers -/

/-- An ident with its remaining dwell (R103). -/
structure Slot where
  ident : Nat
  dwell : Nat
  deriving DecidableEq, Repr

/-- A Notice Arbiter's record (R103), the stack top first. -/
structure Arbiter where
  inService : Option Slot
  stack     : List Slot
  mark      : Option Nat
  deriving DecidableEq, Repr

/-- The WKC symbols (07, section 8.1). -/
inductive Symbol where
  | z
  | o
  | m
  | f
  deriving DecidableEq, Repr

/-- The label modes (R125). -/
inductive LabelMode where
  | forward
  | current
  deriving DecidableEq, Repr

/-- The suppression mask (R128). -/
structure Mask where
  notice   : Bool
  date     : Bool
  identity : Bool
  deriving DecidableEq, Repr

/-- The notice a frame carries (R116, R130). -/
structure Notice where
  ident     : Nat
  code      : Nat
  countdown : Nat
  deriving DecidableEq, Repr

/-- A staged or on-air frame record (R130). -/
structure Frame where
  occupied : Nat
  labelled : Nat
  mode     : LabelMode
  symbols  : List Symbol
  civil    : Civil
  offset   : Int
  summer   : Bool
  zone     : Nat
  identity : Nat
  notice   : Option Notice
  doubt    : Bool
  leap     : Bool
  grade    : Nat
  mask     : Mask
  deriving DecidableEq, Repr

/-- A channel's eight configuration fields (R140). -/
structure ChannelConfig where
  link     : Fin 4
  mode     : LabelMode
  identity : Nat
  dwell    : Nat
  doubt    : Nat
  silence  : Nat
  mask     : Mask
  drive    : Nat
  deriving DecidableEq, Repr

/-- The hold reasons (R148). -/
inductive HoldReason where
  | host
  | calendar
  deriving DecidableEq, Repr

/-- The channel states (08, section 9.2), HELD with its reason. -/
inductive ChannelState where
  | off
  | carrier
  | cued
  | onAir
  | quiet
  | held (reason : HoldReason)
  | resuming
  | faulted
  deriving DecidableEq, Repr

/-- A timed change of CHn_KEY still to come: the FIN count at which it falls and the level it gives (R119). -/
structure KeyChange where
  due   : Nat
  level : Bool
  deriving DecidableEq, Repr

/-- CHn_FAULT as the controller has watched it (R155): the level last told, the FIN count from which the line is known to stand at it, and the FIN count
at which it was last told. Both counts begin again with FIN's at every start. -/
structure FaultLine where
  high  : Bool
  since : Nat
  seen  : Nat
  deriving DecidableEq, Repr

/-- One channel: its record (R140), the advance in force and pending (R136), the label of the channel second that begins next (R120),
its keying output and what is still to come of the symbol (R119), its frames (R130), its arbiter (R103), and its two input lines, CHn_FAULT and CHn_MON.
`claimCancelled` says that a release cleared the claim before its boundary (R161). -/
structure Channel where
  cfg            : ChannelConfig
  state          : ChannelState
  heldBy         : Option Nat
  heldSince      : Option RunSec
  holdPending    : Bool
  claim          : Option Nat
  claimCancelled : Bool
  quietDecided   : Bool
  resumeDeferred : Bool
  resumeStart    : Option Moment
  history        : List RunSec
  fault          : Bool
  faultLine      : FaultLine
  inForce        : Nat
  pendingAdvance : Option Nat
  nextSecond     : Option UtcSecond
  key            : Bool
  keyPlan        : List KeyChange
  staged         : Option Frame
  onAir          : Option Frame
  arbiter        : Arbiter
  monitorHigh    : Bool
  deriving DecidableEq, Repr

/-! ### Delay Meter -/

/-- The working record of a measurement in flight (09, section 10.1) with the open sample window's start and its sample (R172). -/
structure Working where
  channel  : Fin 4
  long     : Bool
  apply    : Bool
  taken    : Nat
  count    : Nat
  sum      : Nat
  least    : Option Nat
  greatest : Option Nat
  window   : Option Nat
  sample   : Option Nat
  deriving DecidableEq, Repr

/-- The outcomes of a measurement (R173, R175). -/
inductive MeterOutcome where
  | valid
  | noReturn
  | aborted
  deriving DecidableEq, Repr

/-- A channel's result record (R169). -/
structure MeterResult where
  outcome : MeterOutcome
  long    : Bool
  count   : Nat
  mean    : Nat
  spread  : Nat
  applied : Bool
  deriving DecidableEq, Repr

/-- The Delay Meter: IDLE when `working` is none (R169). -/
structure Meter where
  working : Option Working
  results : Four (Option MeterResult)
  deriving DecidableEq, Repr

/-! ### Request Link and Attention Unit -/

/-- The request in WORKING: its reply is formed and not yet held, or it is an ADOPT REFERENCE that waits (R191, R32). -/
inductive Work where
  | formed (reply : List Byte)
  | adopting (r : Ref)
  deriving DecidableEq, Repr

/-- The link states (R191). -/
inductive Link where
  | idle
  | working (w : Work)
  | replyHeld (reply : List Byte)
  deriving DecidableEq, Repr

/-- The start kinds (R187). -/
inductive StartKind where
  | cold
  | warm
  deriving DecidableEq, Repr

/-- The Attention Unit (R196, R197): bit k of `flags` and `enables` has the weight 2^k of the cause table. `startKind` is none from a loss moment to
the next start (R179). -/
structure Attention where
  flags     : BitVec 13
  enables   : BitVec 13
  startKind : Option StartKind
  deriving DecidableEq, Repr

/-! ### The whole part -/

/-- The state of the part, and the queue of commands that wait. `fin` counts FIN periods since the last start. `sdo` holds the
whole bytes SDO gave in the last select period (log 25). -/
structure State where
  pending  : List Instr
  vdd      : Bool
  resetN   : Bool
  vbatGood : Bool
  fselPin  : Bool
  fin      : Nat
  tb       : Timebase
  ret      : Retention
  mon      : Monitor
  profiles : Four Profile
  cal      : Calendar
  chans    : Four Channel
  meter    : Meter
  link     : Link
  sdo      : List Byte
  att      : Attention
  deriving DecidableEq, Repr

/-- The manual names nothing that stops the part: there is no fault. Nobody raises one. -/
inductive Fault where
  deriving DecidableEq, Repr

/-- Why a command has no meaning here. -/
inductive Refusal where
  /-- Raised by an arm of `exec` whose command has no meaning yet; safe. No arm raises it. -/
  | notModelled (mnemonic : String)
  /-- Raised by UNKNOWN_REQUEST on an ill-formed term alone, one whose code is 0x00 or a code of the formats table; safe (log 27). -/
  | notTheUnknownRequest
  deriving DecidableEq, Repr

/-! ### Values after a cold start -/

/-- The timebase after a start that gives no time (R17), FSEL read as `high`. -/
def Timebase.start (high : Bool) : Timebase :=
  { state := .unset, time := none, elapsed := 0, length := if high then 10000000 else 5000000, carried := 0, remainder := 0
    measured := none, slewed := false, phaseError := 0, window := [], holdoverStart := none, grade := 6, gradeChanged := false, fselHigh := high }

/-- A reference after a start with the configuration given (R36, R37). -/
def RefRecord.start (enabled : Bool) (polarity : Edge) (priority : Nat) : RefRecord :=
  { enabled := enabled, polarity := polarity, priority := priority, state := if enabled then .acquiring else .off
    goodRun := 0, faultRun := 0, candidateRun := 0, anchor := none, lastLabel := none, lastVerdict := none
    agreement := false, disagreementReported := false, leapMismatch := false, assembly := [], held := none
    lineError := false, carried := false }

/-- An UNUSED profile (R38, R47). -/
def Profile.unused : Profile := { defined := false, labelCode := 0, offset := 0, summer := false }

/-- The cold configuration of a channel (R167). -/
def ChannelConfig.cold : ChannelConfig :=
  { link := 0, mode := .forward, identity := 0, dwell := 5, doubt := 2, silence := 5
    mask := { notice := false, date := false, identity := false }, drive := 0 }

/-- A channel after a start with the retained configuration and history and the levels of its input lines: OFF, the advance in force the drive advance
(R139, R167, R168), the 10 ms of CHn_FAULT counted from the start (R155). -/
def Channel.start (cfg : ChannelConfig) (history : List RunSec) (faultHigh monitorHigh : Bool) : Channel :=
  { cfg := cfg, state := .off, heldBy := none, heldSince := none, holdPending := false, claim := none, claimCancelled := false
    quietDecided := false, resumeDeferred := false, resumeStart := none, history := history, fault := false
    faultLine := { high := faultHigh, since := 0, seen := 0 }
    inForce := cfg.drive, pendingAdvance := none, nextSecond := none, key := false, keyPlan := [], staged := none, onAir := none
    arbiter := { inService := none, stack := [], mark := none }, monitorHigh := monitorHigh }

/-- The same value for each of the four. -/
def Four.all {α : Type} (x : α) : Four α := ⟨x, x, x, x⟩

/-- The part right after reset: the cold start of R184 with VDD present. What the manual does not give (the strap, the pins, the
fraction) is named in log 3. -/
def State.reset : State :=
  { pending := [], vdd := true, resetN := true, vbatGood := true, fselPin := true, fin := 0
    tb := Timebase.start true
    ret := { runSeconds := 0, fraction := 0, century := 20, loss := none, marker := true }
    mon := { a := RefRecord.start true .rising 1, b := RefRecord.start true .rising 2, revertive := false
             selection := none, firstEdge := false }
    profiles := Four.all Profile.unused
    cal := { entries := [], ring := [], nextIdent := 1 }
    chans := Four.all (Channel.start ChannelConfig.cold [] false false)
    meter := { working := none, results := Four.all none }
    link := .idle, sdo := []
    att := { flags := 0x1000, enables := 0x1FFF, startKind := some .cold } }

end Sys2Proof.Machine
end

