-- ==== Sys2Proof/Machine/Time.lean ====
section
/-! DEFINITION. UTC arithmetic (00, section 1.5; R1): minutes counted from 2000-01-01 00:00, the Gregorian calendar, seconds with leap seconds. -/

namespace Sys2Proof.Machine

/-- Days from 0000-03-01 to 2000-01-01. -/
def epochDay : Nat := 730425

/-- The UTC minutes of the years 2000 to 2199, the years the part keeps (00, section 1.5). -/
def minutesKept : Nat := 105190560

/-- Days from 0000-03-01 to a date of the Gregorian calendar. -/
def dayNumber (year month day : Nat) : Nat :=
  let y := if month ≤ 2 then year - 1 else year
  let ofYear := (153 * ((month + 9) % 12) + 2) / 5 + (day - 1)
  365 * y + y / 4 - y / 100 + y / 400 + ofYear

/-- The year, month and day of a day counted from 0000-03-01. -/
def dateOfDay (z : Nat) : Nat × Nat × Nat :=
  let era := z / 146097
  let doe := z % 146097
  let yoe := (doe - doe / 1460 + doe / 36524 - doe / 146096) / 365
  let doy := doe - (365 * yoe + yoe / 4 - yoe / 100)
  let mp := (5 * doy + 2) / 153
  let month := if mp < 10 then mp + 3 else mp - 9
  (yoe + era * 400 + (if month ≤ 2 then 1 else 0), month, doy - (153 * mp + 2) / 5 + 1)

/-- The weekday of a day counted from 0000-03-01: 1 (Monday) to 7 (Sunday) (R1). -/
def weekdayOf (z : Nat) : Nat := (z + 2) % 7 + 1

/-- The civil date and time `x` minutes after 2000-01-01 00:00; `x` may reach into 1999 (R126). -/
def civilOf (x : Int) : Civil :=
  let t := (x + 2880).toNat
  let z := t / 1440 + (epochDay - 2)
  let d := dateOfDay z
  { year := d.1, month := d.2.1, day := d.2.2, hour := t % 1440 / 60, minute := t % 60, weekday := weekdayOf z }

/-- The UTC minute of a date and time. -/
def minuteOf (year month day hour minute : Nat) : Nat :=
  (dayNumber year month day - epochDay) * 1440 + hour * 60 + minute

/-- Gregorian leap years: 2000 is one, 2100 is not (R1). -/
def leapYear (y : Nat) : Bool := y % 4 == 0 && (y % 100 != 0 || y % 400 == 0)

/-- The length of a month. -/
def monthLength (year month : Nat) : Nat :=
  if month = 2 then (if leapYear year then 29 else 28)
  else if month = 4 ∨ month = 6 ∨ month = 9 ∨ month = 11 then 30 else 31

/-- A date that exists. -/
def dateExists (year month day : Nat) : Bool :=
  1 ≤ month && month ≤ 12 && 1 ≤ day && day ≤ monthLength year month

/-- The minute is 23:59 of a month's last day: the minute after it is 00:00 of a first day (R11). -/
def endsMonth (minute : Nat) : Bool :=
  (minute + 1) % 1440 == 0 && (civilOf ((minute + 1 : Nat) : Int)).day == 1

/-- 00:00 of the first day of the month after the one given (R33, R50). -/
def monthEndInstant (year month : Nat) : Nat :=
  if month = 12 then minuteOf (year + 1) 1 1 0 0 else minuteOf year (month + 1) 1 0 0

/-- The century in which a minute lies (R2). -/
def centuryOf (minute : Nat) : Nat := (civilOf (minute : Int)).year / 100

/-- A second as a count from 2000-01-01 00:00:00 that passes over leap seconds; a second 60 counts as the second after 59. -/
def UtcSecond.linear (u : UtcSecond) : Nat := u.minute * 60 + u.second

/-- The second `u` begins before the second `v`. -/
def UtcSecond.before (u v : UtcSecond) : Bool :=
  u.minute < v.minute || (u.minute == v.minute && u.second < v.second)

/-- The second a linear count names. -/
def UtcSecond.ofLinear (t : Nat) : UtcSecond := ⟨t / 60, t % 60⟩

/-- The second `k` seconds after `u`, leap seconds passed over; an inserted second in progress ends into 00:00:00 (R18, log 15). -/
def UtcSecond.plus (u : UtcSecond) (k : Nat) : UtcSecond :=
  if k = 0 then u
  else if u.second = 60 then .ofLinear ((u.minute + 1) * 60 + (k - 1))
  else .ofLinear (u.linear + k)

/-- Station time in microseconds, to compare two moments (R153). -/
def Moment.micros (m : Moment) : Nat := (m.minute * 60 + m.second) * 1000000 + m.phase

end Sys2Proof.Machine
end

