-- ==== Sys2Proof/Machine/Ops.lean ====
section
/-! DEFINITION. The shared operations on the state: the four channels and profiles, the two references, the FIN clock, station time. -/

namespace Sys2Proof.Machine

/-! ### Four of a kind, two references -/

/-- The one of the four at place `i`. -/
def Four.get {α : Type} (f : Four α) (i : Fin 4) : α :=
  match i with
  | 0 => f.c0
  | 1 => f.c1
  | 2 => f.c2
  | 3 => f.c3

/-- The four with `x` at place `i`. -/
def Four.set {α : Type} (f : Four α) (i : Fin 4) (x : α) : Four α :=
  match i with
  | 0 => { f with c0 := x }
  | 1 => { f with c1 := x }
  | 2 => { f with c2 := x }
  | 3 => { f with c3 := x }

/-- A function of each of the four. -/
def Four.map {α β : Type} (g : α → β) (f : Four α) : Four β := ⟨g f.c0, g f.c1, g f.c2, g f.c3⟩

/-- The four as a list, 0 first. -/
def Four.toList {α : Type} (f : Four α) : List α := [f.c0, f.c1, f.c2, f.c3]

/-- Channel `n`. -/
def State.chan (s : State) (n : Fin 4) : Channel := s.chans.get n

/-- The state with channel `n` replaced. -/
def State.setChan (s : State) (n : Fin 4) (c : Channel) : State := { s with chans := s.chans.set n c }

/-- The reference named. -/
def State.ref (s : State) (r : Ref) : RefRecord :=
  match r with
  | .a => s.mon.a
  | .b => s.mon.b

/-- The state with a reference's record replaced. -/
def State.setRef (s : State) (r : Ref) (x : RefRecord) : State :=
  match r with
  | .a => { s with mon := { s.mon with a := x } }
  | .b => { s with mon := { s.mon with b := x } }

/-- The other reference. -/
def otherRef (r : Ref) : Ref :=
  match r with
  | .a => .b
  | .b => .a

/-- The same operation for the four channels, 0 first. -/
def State.eachChannel (f : Fin 4 → State → State) (s : State) : State := f 3 (f 2 (f 1 (f 0 s)))

/-! ### The main logic and its clock -/

/-- The main logic runs while VDD is present and RESET_N is not low (R179, R182). -/
def State.running (s : State) : Bool := s.vdd && s.resetN

/-- FIN periods in a microsecond: FIN is 10 MHz with FSEL high, 5 MHz with FSEL low (R1). -/
def State.perMicro (s : State) : Nat := if s.tb.fselHigh then 10 else 5

/-- The FIN period in ns. -/
def State.periodNs (s : State) : Nat := if s.tb.fselHigh then 100 else 200

/-- FIN periods of a nominal station second (R1). -/
def State.nominalLength (s : State) : Nat := if s.tb.fselHigh then 10000000 else 5000000

/-- `d` FIN periods go by. -/
def State.elapse (d : Nat) (s : State) : State :=
  { s with fin := s.fin + d, tb := { s.tb with elapsed := s.tb.elapsed + d } }

/-- An event the main logic takes, `d` FIN periods after the command before; while the part is stopped it finds nothing that takes it (R179). -/
def State.whenRunning (d : Nat) (f : State → State) (s : State) : State :=
  if s.running then f (s.elapse d) else s

/-- Time goes on to the FIN count `due`; a moment already past leaves it (log 2). -/
def State.elapseTo (due : Nat) (s : State) : State := s.elapse (due - s.fin)

/-- The interval counter, read to the nearest microsecond, a half up (R21, log 6). -/
def State.intervalMicros (s : State) : Nat := (2 * s.fin + s.perMicro) / (2 * s.perMicro)

/-- The station phase in microseconds (00, section 1.5): in the first half of a second the whole microseconds since it began, in the second half 1,000,000
less the microseconds to its end, so that a correction falls between the halves and R6 measures from the start nearest the edge (log 4). -/
def State.phase (s : State) : Nat :=
  if 2 * s.tb.elapsed < s.tb.length then min 499999 (s.tb.elapsed / s.perMicro)
  else min 999999 (max 500000 (1000000 - (s.tb.length - s.tb.elapsed + s.perMicro - 1) / s.perMicro))

/-- Station time now, or none in UNSET (R4). -/
def State.moment (s : State) : Option Moment :=
  s.tb.time.map fun u => ⟨u.minute, u.second, s.phase⟩

/-- The resume start channel `n` takes now (R152, R159); a free value while there is no station time (log 14). -/
def State.resumeMoment (n : Fin 4) (s : State) : Moment :=
  match s.moment with
  | some m => m
  | none =>
    let f := Config.timelessResumeStart n s.ret.runSeconds.toNat
    ⟨f.1, f.2.1, f.2.2⟩

/-- The holdover duration in run seconds, 0 in any state other than HOLDOVER (R10, R16). -/
def State.holdoverDuration (s : State) : Nat :=
  match s.tb.state, s.tb.holdoverStart with
  | .holdover, some t => s.ret.runSeconds.since t
  | _, _ => 0

/-- Station time takes the label `u`; the century follows its year (R2). -/
def State.placeLabel (u : UtcSecond) (s : State) : State :=
  { s with tb := { s.tb with time := some u, elapsed := 0 }, ret := { s.ret with century := centuryOf u.minute } }

/-- A channel in service (R142). -/
def ChannelState.inService (c : ChannelState) : Bool :=
  match c with
  | .cued | .onAir | .quiet | .resuming | .held _ => true
  | .off | .carrier | .faulted => false

/-- A channel in ON AIR, CUED or RESUMING, the states that keep station time from being placed (R8, R15, R32). -/
def ChannelState.holdsTime (c : ChannelState) : Bool :=
  match c with
  | .onAir | .cued | .resuming => true
  | .off | .carrier | .quiet | .held _ | .faulted => false

/-- Some channel is in service. -/
def State.anyInService (s : State) : Bool := s.chans.toList.any fun c => c.state.inService

/-- Some channel is in ON AIR, CUED or RESUMING. -/
def State.anyHoldsTime (s : State) : Bool := s.chans.toList.any fun c => c.state.holdsTime

end Sys2Proof.Machine
end

