-- ==== Sys2Proof/Machine/Flags.lean ====
section
/-! DEFINITION. The attention causes (R196 to R198), the output pins that follow other state, and the quality grade (R13, R14). -/

namespace Sys2Proof.Machine

/-- The thirteen causes (R196). -/
inductive Cause where
  | changeAnnouncing
  | changeEffected
  | interruptionEnded
  | changeOvertaken
  | calendarNearFull
  | channelEvent
  | measurementEnded
  | gradeChanged
  | referenceChanged
  | timeDisagree
  | leapDisagree
  | linkOverrun
  | start
  deriving DecidableEq, Repr

/-- The weight of a cause (R196). -/
def Cause.weight (c : Cause) : BitVec 13 :=
  match c with
  | .changeAnnouncing => 0x0001
  | .changeEffected => 0x0002
  | .interruptionEnded => 0x0004
  | .changeOvertaken => 0x0008
  | .calendarNearFull => 0x0010
  | .channelEvent => 0x0020
  | .measurementEnded => 0x0040
  | .gradeChanged => 0x0080
  | .referenceChanged => 0x0100
  | .timeDisagree => 0x0200
  | .leapDisagree => 0x0400
  | .linkOverrun => 0x0800
  | .start => 0x1000

/-- A cause is raised: its flag is set whether or not it is enabled (R197). -/
def State.raise (c : Cause) (s : State) : State :=
  { s with att := { s.att with flags := s.att.flags ||| c.weight } }

/-- A cause's flag is set. -/
def State.flagged (s : State) (c : Cause) : Bool := s.att.flags &&& c.weight != 0

/-- ATTN_N: low (false) while a cause has its flag and its enable set, high while the part is stopped (R198). -/
def State.attnN (s : State) : Bool := !(s.running && s.att.flags &&& s.att.enables != 0)

/-- READY: high while a reply is held (R191), low while the part is stopped (R179). -/
def State.ready (s : State) : Bool :=
  s.running && match s.link with
    | .replyHeld _ => true
    | .idle | .working _ => false

/-- CHn_CARRIER: asserted in CARRIER, CUED, ON AIR, QUIET and RESUMING (R142), inactive while the part is stopped (R179). -/
def State.carrierPin (s : State) (n : Fin 4) : Bool :=
  s.running && match (s.chan n).state with
    | .carrier | .cued | .onAir | .quiet | .resuming => true
    | .off | .held _ | .faulted => false

/-- The grade of section 2.6: by the state, the held phase error and the holdover duration (R13). -/
def gradeOf (state : TbState) (phaseError : Int) (duration : Nat) : Nat :=
  match state with
  | .locked => if phaseError.natAbs ≤ 10 then 0 else 1
  | .holdover =>
    if duration ≤ 3600 then 2 else if duration ≤ 28800 then 3 else if duration ≤ 86400 then 4 else 5
  | .free => 5
  | .unset => 6

/-- The grade is derived; a new value sets the grade-changed flag and raises GRADE CHANGED, the same value sets nothing (R13, R14). -/
def State.deriveGrade (s : State) : State :=
  let g := gradeOf s.tb.state s.tb.phaseError s.holdoverDuration
  if g = s.tb.grade then s
  else ({ s with tb := { s.tb with grade := g, gradeChanged := true } }).raise .gradeChanged

end Sys2Proof.Machine
end

