-- ==== Sys2Proof/Machine/Operands.lean ====
section
/-! DEFINITION. Every operand form of the requests (11, section 12.3): the encodings of their fields, and how the fields are read.
A value outside its encoding reads as none, and the owner then refuses BAD PARAMETER. -/

namespace Sys2Proof.Machine

/-! ### Single fields -/

/-- Two bytes, most significant first (R195). -/
def word16 (hi lo : Byte) : Nat := hi.toNat * 256 + lo.toNat

/-- Three bytes, most significant first. -/
def word24 (a b c : Byte) : Nat := (a.toNat * 256 + b.toNat) * 256 + c.toNat

/-- yes / no fields, summer flag, apply, revertive, auto-retire: 0 or 1. -/
def yesNo? (b : Byte) : Option Bool :=
  if b = 0 then some false else if b = 1 then some true else none

/-- A channel or profile number, 0 to 3. -/
def fin4? (b : Byte) : Option (Fin 4) :=
  if h : b.toNat < 4 then some ⟨b.toNat, h⟩ else none

/-- A reference: 0 A, 1 B. -/
def ref? (b : Byte) : Option Ref :=
  if b = 0 then some .a else if b = 1 then some .b else none

/-- The line byte of CONFIGURE REFERENCE: weight 1 enabled, weight 2 FALLING. -/
def lineByte? (b : Byte) : Option (Bool × Edge) :=
  if b.toNat < 4 then some (b.getLsbD 0, if b.getLsbD 1 then .falling else .rising) else none

/-- A label mode: 0 FORWARD, 1 CURRENT. -/
def labelMode? (b : Byte) : Option LabelMode :=
  if b = 0 then some .forward else if b = 1 then some .current else none

/-- The suppression mask: weights 1 NOTICE, 2 DATE, 4 IDENTITY. -/
def mask? (b : Byte) : Option Mask :=
  if b.toNat < 8 then some ⟨b.getLsbD 0, b.getLsbD 1, b.getLsbD 2⟩ else none

/-- A number in a range. -/
def inRange? (lo hi n : Nat) : Option Nat := if lo ≤ n ∧ n ≤ hi then some n else none

/-- An offset in quarter-hours, -48 to +56, in two's complement (R38). -/
def offset? (b : Byte) : Option Int :=
  if -48 ≤ b.toInt ∧ b.toInt ≤ 56 then some b.toInt else none

/-- A non-empty channel set: weights 1, 2, 4, 8 (R81). -/
def channelSet? (b : Byte) : Option (BitVec 4) :=
  if b.toNat < 16 ∧ b ≠ 0 then some (b.setWidth 4) else none

/-- A cause mask with no weight above 0x1000 (R199, R200). -/
def causeMask? (hi lo : Byte) : Option (BitVec 13) :=
  if word16 hi lo < 0x2000 then some (BitVec.ofNat 13 (word16 hi lo)) else none

/-- The kinds by number. -/
def kind? (b : Byte) : Option Kind :=
  if b = 1 then some .offsetChange
  else if b = 2 then some .leapInsert
  else if b = 3 then some .leapDelete
  else if b = 4 then some .interruption
  else if b = 5 then some .advisory
  else none

/-- A valid UTC minute (R81): year less 2000, month, day, hour, minute. -/
def instant? (year month day hour minute : Byte) : Option Nat :=
  if year.toNat ≤ 199 ∧ dateExists (2000 + year.toNat) month.toNat day.toNat ∧ hour.toNat ≤ 23 ∧ minute.toNat ≤ 59 then
    some (minuteOf (2000 + year.toNat) month.toNat day.toNat hour.toNat minute.toNat)
  else none

/-- The effective instant of a LEAP entry from its year and month (R50, R80); December 2199 has none (R81). -/
def leapInstant? (year month : Byte) : Option Nat :=
  if year.toNat ≤ 199 ∧ 1 ≤ month.toNat ∧ month.toNat ≤ 12 ∧ ¬(year.toNat = 199 ∧ month.toNat = 12) then
    some (monthEndInstant (2000 + year.toNat) month.toNat)
  else none

/-! ### The fields of ENTER CHANGE and AMEND CHANGE -/

/-- The fields from the instant on, as ENTER CHANGE and AMEND CHANGE lay them out. -/
structure ChangeFields where
  year     : Byte
  month    : Byte
  day      : Byte
  hour     : Byte
  minute   : Byte
  lead     : Byte
  level    : Byte
  auto     : Byte
  profile  : Byte
  offset   : Byte
  summer   : Byte
  channels : Byte
  durHi    : Byte
  durLo    : Byte
  advisory : Byte

/-- The fifteen bytes as fields. -/
def changeFields? (f : List Byte) : Option ChangeFields :=
  match f with
  | [y, mo, d, h, mi, lead, level, auto, prof, off, sum, set, dh, dl, adv] =>
    some ⟨y, mo, d, h, mi, lead, level, auto, prof, off, sum, set, dh, dl, adv⟩
  | _ => none

/-- The terms of an entry: its effective instant, its lead and the payload of its kind (06, section 6.3). -/
structure Terms where
  instant : Nat
  lead    : Nat
  payload : Payload
  deriving DecidableEq, Repr

/-- The effective instant the fields give an entry of the kind (R80). -/
def ChangeFields.instantFor? (f : ChangeFields) (k : Kind) : Option Nat :=
  match k with
  | .leapInsert | .leapDelete => leapInstant? f.year f.month
  | .offsetChange | .interruption | .advisory => instant? f.year f.month f.day f.hour f.minute

/-- The payload the fields give an entry of the kind with the effective instant `at_`; the other kinds' fields are not read (R80, R81). -/
def ChangeFields.payloadFor? (f : ChangeFields) (k : Kind) (at_ : Nat) : Option Payload :=
  match k with
  | .offsetChange =>
    if at_ % 15 = 0 then do
      let p ← fin4? f.profile
      let o ← offset? f.offset
      let s ← yesNo? f.summer
      return .offsetChange p o s
    else none
  | .leapInsert => some .leapInsert
  | .leapDelete => some .leapDelete
  | .interruption => do
    let c ← channelSet? f.channels
    let d ← inRange? 1 1440 (word16 f.durHi f.durLo)
    if at_ + d < minutesKept then return .interruption c d else none
  | .advisory => do
    let c ← channelSet? f.channels
    let n ← inRange? 1 15 f.advisory.toNat
    return .advisory c n

/-- The terms the fields give an entry of the kind, or none where R81 finds one of them bad. -/
def ChangeFields.terms? (f : ChangeFields) (k : Kind) : Option Terms := do
  let i ← f.instantFor? k
  let l ← inRange? 1 15 f.lead.toNat
  let p ← f.payloadFor? k i
  return ⟨i, l, p⟩

/-- The default level of a kind (R52). -/
def Kind.defaultLevel (k : Kind) : Nat :=
  match k with
  | .leapInsert | .leapDelete => 1
  | .offsetChange => 2
  | .interruption => 3
  | .advisory => 6

/-- A level: 0 to 7 as given, 255 the kind's default (R52). -/
def level? (k : Kind) (b : Byte) : Option Nat :=
  if b.toNat ≤ 7 then some b.toNat else if b = 255 then some k.defaultLevel else none

/-! ### CONFIGURE CHANNEL -/

/-- The eight configuration fields after the channel number, or none when one lies outside its values or the doubt level
is above the silence level (R141). -/
def channelConfig? (f : List Byte) : Option ChannelConfig :=
  match f with
  | [link, mode, ident, dwell, doubt, silence, mask, d2, d1, d0] => do
    let link ← fin4? link
    let mode ← labelMode? mode
    let ident ← inRange? 0 15 ident.toNat
    let dwell ← inRange? 1 15 dwell.toNat
    let silence ← inRange? 1 6 silence.toNat
    let doubt ← inRange? 1 silence doubt.toNat
    let mask ← mask? mask
    let drive ← inRange? 0 50000 (word24 d2 d1 d0)
    return { link, mode, identity := ident, dwell, doubt, silence, mask, drive }
  | _ => none

/-- The kind of a payload (R49). -/
def Payload.kind (p : Payload) : Kind :=
  match p with
  | .offsetChange _ _ _ => .offsetChange
  | .leapInsert => .leapInsert
  | .leapDelete => .leapDelete
  | .interruption _ _ => .interruption
  | .advisory _ _ => .advisory

end Sys2Proof.Machine
end

