-- ==== Sys2Proof/Machine/Replies.lean ====
section
/-! DEFINITION. Replies (R194, R195; 11, section 12.3): result codes, the encoding of numbers, instants and the named values in reply fields. -/

namespace Sys2Proof.Machine

/-- The result codes. -/
inductive Result where
  | done
  | unknownRequest
  | badLength
  | badParameter
  | noTime
  | tooSoon
  | tooFar
  | conflict
  | calendarFull
  | noSuchChange
  | locked
  | noProfile
  | profileInUse
  | wrongState
  | channelsOnAir
  | switchLimit
  | holdTooShort
  | calendarHold
  | stillFaulted
  | gradeTooLow
  | meterBusy
  deriving DecidableEq, Repr

/-- The value of a result code. -/
def Result.byte (r : Result) : Byte :=
  match r with
  | .done => 0
  | .unknownRequest => 1
  | .badLength => 2
  | .badParameter => 3
  | .noTime => 4
  | .tooSoon => 5
  | .tooFar => 6
  | .conflict => 7
  | .calendarFull => 8
  | .noSuchChange => 9
  | .locked => 10
  | .noProfile => 11
  | .profileInUse => 12
  | .wrongState => 13
  | .channelsOnAir => 14
  | .switchLimit => 15
  | .holdTooShort => 16
  | .calendarHold => 17
  | .stillFaulted => 18
  | .gradeTooLow => 19
  | .meterBusy => 20

/-- One byte. -/
def be8 (n : Nat) : List Byte := [BitVec.ofNat 8 n]

/-- Two bytes, most significant first. -/
def be16 (n : Nat) : List Byte := [BitVec.ofNat 8 (n / 256), BitVec.ofNat 8 n]

/-- Three bytes, most significant first. -/
def be24 (n : Nat) : List Byte := BitVec.ofNat 8 (n / 65536) :: be16 n

/-- Four bytes, most significant first. -/
def be32 (n : Nat) : List Byte := be16 (n / 65536) ++ be16 n

/-- A signed number in four bytes, two's complement. -/
def be32s (i : Int) : List Byte := be32 (BitVec.ofInt 32 i).toNat

/-- A signed number in one byte, two's complement. -/
def be8s (i : Int) : List Byte := [BitVec.ofInt 8 i]

/-- A yes / no field. -/
def beBool (b : Bool) : List Byte := [if b then 1 else 0]

/-- An ident, 0 when absent (R195). -/
def beIdent (i : Option Nat) : List Byte := be16 (i.getD 0)

/-- A run-second time, 0xFFFFFFFF when absent (R195). -/
def beRun (t : Option RunSec) : List Byte :=
  match t with
  | some t => be32 t.toNat
  | none => [0xFF, 0xFF, 0xFF, 0xFF]

/-- An instant: year less 2000, month, day, hour, minute (R195). -/
def beInstant (minute : Nat) : List Byte :=
  let c := civilOf (minute : Int)
  be8 (c.year - 2000) ++ be8 c.month ++ be8 c.day ++ be8 c.hour ++ be8 c.minute

/-- The timebase state's code. -/
def TbState.code (t : TbState) : Nat :=
  match t with
  | .unset => 0
  | .free => 1
  | .locked => 2
  | .holdover => 3

/-- The channel state's code. -/
def ChannelState.code (c : ChannelState) : Nat :=
  match c with
  | .off => 0
  | .carrier => 1
  | .cued => 2
  | .onAir => 3
  | .quiet => 4
  | .held .host => 5
  | .held .calendar => 6
  | .resuming => 7
  | .faulted => 8

/-- The reference state's code. -/
def RefState.code (r : RefState) : Nat :=
  match r with
  | .off => 0
  | .acquiring => 1
  | .qualified => 2

/-- The verdict's code; 0 is none. -/
def verdictCode (v : Option Verdict) : Nat :=
  match v with
  | none => 0
  | some .good => 1
  | some .noEdge => 2
  | some .offTime => 3
  | some .noMessage => 4
  | some .lineError => 5
  | some .badLabel => 6
  | some .invalid => 7

/-- The kind's number. -/
def Kind.code (k : Kind) : Nat :=
  match k with
  | .offsetChange => 1
  | .leapInsert => 2
  | .leapDelete => 3
  | .interruption => 4
  | .advisory => 5

/-- The entry state's number. -/
def EntryState.code (e : EntryState) : Nat :=
  match e with
  | .scheduled => 1
  | .announcing => 2
  | .committed => 3
  | .inEffect => 4
  | .done => 5
  | .withdrawn => 6

/-- The outcome's number; 0 is none. -/
def outcomeCode (o : Option EntryOutcome) : Nat :=
  match o with
  | none => 0
  | some .onTime => 1
  | some .overtaken => 2
  | some .cutShort => 3

/-- The measurement outcome's number. -/
def MeterOutcome.code (o : MeterOutcome) : Nat :=
  match o with
  | .valid => 1
  | .noReturn => 2
  | .aborted => 3

/-- The start kind's number; 0 only between a loss moment and the next start, when nothing is read. -/
def startKindCode (k : Option StartKind) : Nat :=
  match k with
  | none => 0
  | some .cold => 1
  | some .warm => 2

/-- The label mode's code. -/
def LabelMode.code (m : LabelMode) : Nat :=
  match m with
  | .forward => 0
  | .current => 1

/-- The suppression mask's weights. -/
def Mask.code (m : Mask) : Nat := m.notice.toNat + 2 * m.date.toNat + 4 * m.identity.toNat

/-- The link WORKING with a reply formed: the header, and the fields of a DONE reply (R191, R194). -/
def State.answer (code : Byte) (r : Result) (fields : List Byte) (s : State) : State :=
  { s with link := .working (.formed (code :: r.byte :: fields)) }

/-- A reply of the header alone that changes nothing but the link: a refusal (R194). -/
def State.refuse (code : Byte) (r : Result) (s : State) : State := s.answer code r []

/-- The no-reply header (R193). -/
def noReply : List Byte := [0x00, 0xFF]

/-- What SDO shifts in a period of `n` whole bytes: the held reply or the no-reply header, then 0x00 (R189, R193). -/
def State.sdoBytes (s : State) (n : Nat) : List Byte :=
  let reply := match s.link with
    | .replyHeld r => r
    | .idle | .working _ => noReply
  reply.take n ++ List.replicate (n - reply.length) 0x00

/-- A request period ends (R189 to R192). While the part is stopped, and for a period already in progress at the start, nothing is taken.
In WORKING it is an overrun. Otherwise a held reply is discarded; a wrong length is answered BAD LENGTH; a request of `total` bytes is
handed to its owner, who forms the reply. -/
def State.takeRequest (code : Byte) (total : Nat) (owner : List Byte → State → State) (p : Period) (s : State) : State :=
  if s.running then
    let t := s.elapse p.elapsed
    if p.stale then t
    else
      let u := { t with sdo := t.sdoBytes (p.fields.length + 1) }
      match u.link with
      | .working _ => u.raise .linkOverrun
      | .idle | .replyHeld _ =>
        if p.fields.length + 1 = total ∧ p.extra = 0 then owner p.fields u
        else u.refuse code .badLength
  else s

end Sys2Proof.Machine
end

