-- ==== Sys2Proof/Machine/Meter.lean ====
section
/-! DEFINITION. The Delay Meter (09): windows, samples, the end and the abort of a measurement, and its two requests. -/

namespace Sys2Proof.Machine

/-- The sampling seconds of a measurement (R171). -/
def Working.seconds (w : Working) : Nat := if w.long then 64 else 8

/-- The samples a VALID result needs (R173). -/
def Working.needed (w : Working) : Nat := if w.long then 48 else 6

/-- The mean, rounded to the nearest microsecond with a half up; 0 without samples (R173). -/
def Working.mean (w : Working) : Nat := if w.count = 0 then 0 else (2 * w.sum + w.count) / (2 * w.count)

/-- The greatest sample less the least; 0 without samples (R173). -/
def Working.spread (w : Working) : Nat := w.greatest.getD 0 - w.least.getD 0

/-- The outcome at the end (R173). -/
def Working.outcome (w : Working) : MeterOutcome :=
  if w.needed ≤ w.count ∧ w.mean ≤ 50000 then .valid else .noReturn

/-- The measurement is over: its result record is written, the meter is IDLE, MEASUREMENT ENDED is raised (R169, R173, R175). -/
def State.closeMeter (w : Working) (outcome : MeterOutcome) (applied : Bool) (s : State) : State :=
  ({ s with meter :=
      { working := none
        results := s.meter.results.set w.channel
          (some { outcome := outcome, long := w.long, count := w.count, mean := w.mean, spread := w.spread, applied := applied }) } }
  ).raise .measurementEnded

/-- CHn_KEY is released, and nothing of a symbol is left to key. -/
def Channel.releaseKey (c : Channel) : Channel := { c with key := false, keyPlan := [] }

/-- The abort of a measurement in flight, if there is one (R175); a test pulse on a channel in CARRIER is cut short. -/
def State.abortMeasurement (s : State) : State :=
  match s.meter.working with
  | none => s
  | some w =>
    let c := s.chan w.channel
    (s.setChan w.channel (if c.state = .carrier then c.releaseKey else c)).closeMeter w .aborted false

/-- The abort that a change of channel `n`'s state makes: of a measurement of that channel alone (R175). -/
def State.abortMeasurementOn (n : Fin 4) (s : State) : State :=
  match s.meter.working with
  | none => s
  | some w => if w.channel = n then s.abortMeasurement else s

/-- A sampling second of the measured channel begins: its window opens at the keying leading edge (R171, R172). -/
def State.openWindow (n : Fin 4) (s : State) : State :=
  match s.meter.working with
  | none => s
  | some w =>
    if w.channel = n then { s with meter := { s.meter with working := some { w with window := some s.fin, sample := none } } }
    else s

/-- A window closes: seconds taken rises by one, and the second's sample, if it gave one, is taken in (R172). -/
def Working.closeWindow (w : Working) : Working :=
  let base := { w with taken := w.taken + 1, window := none, sample := none }
  match w.sample with
  | none => base
  | some v =>
    { base with
      count := w.count + 1
      sum := w.sum + v
      least := some (match w.least with | none => v | some x => min x v)
      greatest := some (match w.greatest with | none => v | some x => max x v) }

/-- A VALID result is written to the drive advance: in CARRIER it is in force at once, on air it is pending (R174). -/
def Channel.applyAdvance (mean : Nat) (c : Channel) : Channel :=
  if c.state = .carrier then
    { c with cfg := { c.cfg with drive := mean }, inForce := mean, pendingAdvance := none }
  else { c with cfg := { c.cfg with drive := mean }, pendingAdvance := some mean }

/-- The end of a measurement (R173, R174). -/
def State.endMeasurement (w : Working) (s : State) : State :=
  if w.outcome = .valid ∧ w.apply = true then
    (s.setChan w.channel ((s.chan w.channel).applyAdvance w.mean)).closeMeter w .valid true
  else s.closeMeter w w.outcome false

/-- SAMPLE_WINDOW_CLOSE: 100 ms after its start the open window closes; the last window ends the measurement (R172, R173). -/
def sampleWindowClose (s : State) : State :=
  match s.meter.working with
  | none => s
  | some w =>
    match w.window with
    | none => s
    | some start =>
      let t := s.elapseTo (start + 100000 * s.perMicro)
      let w' := w.closeWindow
      if w.seconds ≤ w'.taken then t.endMeasurement w'
      else { t with meter := { t.meter with working := some w' } }

/-- The sample a falling edge now would give: its microseconds after the window's start, if the window is open and has none (R172). -/
def State.sampleNow (w : Working) (s : State) : Option Nat :=
  match w.window, w.sample with
  | some start, none =>
    let us := (s.fin - start) / s.perMicro
    if us < 100000 then some us else none
  | _, x => x

/-- The level of CHn_MON after its edge. -/
def monitorLevel (n : Fin 4) (edge : Edge) (s : State) : State :=
  s.setChan n { s.chan n with monitorHigh := edge == .rising }

/-- MONITOR_EDGE: CHn_MON changes; the first falling edge inside the open window fixes the second's sample (R172). -/
def monitorEdge (n : Fin 4) (edge : Edge) (s : State) : State :=
  let t := monitorLevel n edge s
  match edge, t.meter.working with
  | .falling, some w =>
    if w.channel = n then { t with meter := { t.meter with working := some { w with sample := t.sampleNow w } } } else t
  | _, _ => t

/-- The working record at the acceptance of MEASURE DELAY (R170). -/
def Working.fresh (n : Fin 4) (long apply : Bool) : Working :=
  { channel := n, long := long, apply := apply, taken := 0, count := 0, sum := 0, least := none, greatest := none
    window := none, sample := none }

/-- MEASURE DELAY (R170). -/
def ownMeasureDelay (f : List Byte) (s : State) : State :=
  match f with
  | [n, mode, apply] =>
    match fin4? n, yesNo? mode, yesNo? apply with
    | some n, some long, some apply =>
      if s.meter.working.isSome then s.refuse 0x48 .meterBusy
      else if ((s.chan n).state = .carrier ∨ (s.chan n).state = .onAir) ∧ s.tb.state ≠ .unset then
        ({ s with meter := { s.meter with working := some (Working.fresh n long apply) } }).answer 0x48 .done []
      else s.refuse 0x48 .wrongState
    | _, _, _ => s.refuse 0x48 .badParameter
  | _ => s.refuse 0x48 .badLength

/-- A channel's result record as READ MEASUREMENT gives it. -/
def beMeterResult (r : Option MeterResult) : List Byte :=
  match r with
  | none => List.replicate 10 0
  | some r => be8 r.outcome.code ++ beBool r.long ++ be8 r.count ++ be24 r.mean ++ be24 r.spread ++ beBool r.applied

/-- The fields of a READ MEASUREMENT reply (R176). -/
def State.measurementFields (s : State) (n : Fin 4) : List Byte :=
  (match s.meter.working with
   | none => [0, 0xFF, 0]
   | some w => [1] ++ be8 w.channel ++ be8 w.taken) ++ beMeterResult (s.meter.results.get n)

/-- READ MEASUREMENT (R176). -/
def ownReadMeasurement (f : List Byte) (s : State) : State :=
  match f with
  | [n] =>
    match fin4? n with
    | some n => s.answer 0x49 .done (s.measurementFields n)
    | none => s.refuse 0x49 .badParameter
  | _ => s.refuse 0x49 .badLength

end Sys2Proof.Machine
end

