-- ==== Sys2Proof/Machine/Channels.lean ====
section
/-! DEFINITION. The Channel Controllers (08): changes of state, the channel boundary, releases, the carrier-on budget, faults, and the channel requests. -/

namespace Sys2Proof.Machine

/-- Channel `n` changed by `f`. -/
def State.modifyChan (n : Fin 4) (f : Channel → Channel) (s : State) : State := s.setChan n (f (s.chan n))

/-- An arbiter that keeps the records of the idents in `p`: the others leave the slot and the stack, the stack closes up, the mark stays (R103). -/
def Arbiter.keep (p : Nat → Bool) (a : Arbiter) : Arbiter :=
  { a with inService := a.inService.filter fun x => p x.ident, stack := a.stack.filter fun x => p x.ident }

/-- An arbiter's in-service slot and stack emptied, the mark kept (R113). -/
def Arbiter.emptied (a : Arbiter) : Arbiter := { a with inService := none, stack := [] }

/-- The channel's arbiter record emptied. -/
def Channel.emptyArbiter (c : Channel) : Channel := { c with arbiter := c.arbiter.emptied }

/-- The channel in a new state: its keying is released (R142), and the fields that belong to HELD or RESUMING are absent until the move that
enters one writes them (R140). -/
def Channel.enter (st : ChannelState) (c : Channel) : Channel :=
  { c.releaseKey with state := st, heldBy := none, heldSince := none, resumeDeferred := false, resumeStart := none }

/-- A change of channel state, handed at once to the Delay Meter (R143); staying in a state is no change. -/
def State.moveChannel (n : Fin 4) (st : ChannelState) (s : State) : State :=
  if (s.chan n).state = st then s else (s.modifyChan n (Channel.enter st)).abortMeasurementOn n

/-- A change of state not made directly by a request: CHANNEL EVENT is raised for it (R165). -/
def State.moveByEvent (n : Fin 4) (st : ChannelState) (s : State) : State :=
  if (s.chan n).state = st then s else (s.moveChannel n st).raise .channelEvent

/-- A channel's next minute is left undecided: staged frame, hold pending, claim and decision gone (R133, R150, R154). -/
def Channel.undecided (c : Channel) : Channel :=
  { c with staged := none, holdPending := false, claim := none, claimCancelled := false, quietDecided := false }

/-! ### The carrier-on budget -/

/-- The budget is spent while the history holds 4 times (R164). -/
def Channel.spent (c : Channel) : Bool := 4 ≤ c.history.length

/-- A carrier-on event: the current run second joins the history (R162, R163). -/
def State.carrierOnEvent (n : Fin 4) (s : State) : State :=
  s.modifyChan n fun c => { c with history := c.history ++ [s.ret.runSeconds] }

/-- The times that are not yet 1,800 run seconds old (R163). -/
def pruneHistory (now : RunSec) (h : List RunSec) : List RunSec := h.filter fun t => now.since t < 1800

/-- HISTORY_TIME_EXPIRY: the times of channel `n` that are 1,800 run seconds old leave its history (R163). -/
def historyTimeExpiry (n : Fin 4) (s : State) : State :=
  if s.running then s.modifyChan n fun c => { c with history := pruneHistory s.ret.runSeconds c.history } else s

/-! ### Resuming and release -/

/-- The channel becomes RESUMING: carrier on, resume start now, a carrier-on event (R152, R159). -/
def State.startResuming (n : Fin 4) (s : State) : State :=
  ((s.moveChannel n .resuming).modifyChan n fun c => { c with resumeStart := some (s.resumeMoment n) }).carrierOnEvent n

/-- A release naming `ident` as channel `n` meets it (R159, R161). -/
def State.releaseChannel (ident : Nat) (n : Fin 4) (s : State) : State :=
  let c := s.chan n
  if c.state = .held .calendar ∧ c.heldBy = some ident then
    if c.spent then s.setChan n { c with heldBy := none, resumeDeferred := true }
    else (s.startResuming n).raise .channelEvent
  else if c.claim = some ident then s.setChan n { c with claim := none, claimCancelled := true }
  else s

/-- A release naming `ident`, handed to the four controllers (R159). -/
def State.release (ident : Nat) (s : State) : State := s.eachChannel (State.releaseChannel ident)

/-- The deferred-resume test of one channel at a minute boundary (R160). -/
def State.testDeferred (n : Fin 4) (s : State) : State :=
  let c := s.chan n
  if c.state = .held .calendar ∧ c.resumeDeferred = true ∧ c.spent = false then
    (s.startResuming n).raise .channelEvent
  else s

/-! ### The channel boundary -/

/-- The staged frame that the decision carried out at a channel boundary puts on the air (R148): the one composed at the instant before it. A frame left of an earlier
instant, beside a later claim or decision, is not keyed (log 23). -/
def Channel.frameToKey (c : Channel) : Option Frame :=
  if c.quietDecided || c.claim.isSome || c.claimCancelled then none else c.staged

/-- What a channel boundary makes of the channel's state, from what it held there (R148, R161). -/
def State.boundaryMove (n : Fin 4) (c : Channel) (s : State) : State :=
  match c.frameToKey with
  | some f => (s.moveByEvent n .onAir).modifyChan n fun c => { c with onAir := some f }
  | none =>
    if c.quietDecided then s.moveByEvent n .quiet
    else if c.holdPending then
      (s.moveByEvent n (.held .host)).modifyChan n fun c => { c with heldSince := some s.ret.runSeconds }
    else
      match c.claim with
      | some id =>
        (s.moveByEvent n (.held .calendar)).modifyChan n fun c =>
          { c with heldBy := some id, heldSince := some s.ret.runSeconds }
      | none => if c.claimCancelled || c.state == .onAir then s.moveByEvent n .cued else s

/-- The channel boundary: the decision is carried out, the frame that has ended is deleted (R134, R148), and the arbiter is emptied
where the channel is not ON AIR from here (R113). -/
def State.channelBoundary (n : Fin 4) (s : State) : State :=
  let c := s.chan n
  let t := (s.modifyChan n fun c => { c.undecided with onAir := none }).boundaryMove n c
  if (t.chan n).state = .onAir then t else t.modifyChan n Channel.emptyArbiter

/-! ### Faults -/

/-- CHn_FAULT is told to stand at a level for `stood` FIN periods at the FIN count `now`. What was told before bounds the time: a line told at this level
stands at it from then on, a line told at the other was still there when it was told (R155). -/
def FaultLine.told (high : Bool) (stood now : Nat) (l : FaultLine) : FaultLine :=
  { high := high, since := max (if l.high = high then l.since else l.seen) (now - stood), seen := now }

/-- Channel `n` with CHn_FAULT told. -/
def State.tellFault (n : Fin 4) (high : Bool) (stood : Nat) (s : State) : State :=
  s.modifyChan n fun c => { c with faultLine := c.faultLine.told high (stood * s.perMicro) s.fin }

/-- CHn_FAULT has stood at its level for 10 ms of FIN (R155). -/
def State.faultSettled (s : State) (n : Fin 4) : Bool := 10000 * s.perMicro ≤ s.fin - (s.chan n).faultLine.since

/-- FAULT_ACTIVE: the line is high and has been for `stood` microseconds. After 10 ms the fault condition becomes ACTIVE, and a channel that is not FAULTED becomes
FAULTED at once (R155, R156). -/
def faultActive (n : Fin 4) (stood : Nat) (s : State) : State :=
  let t := s.tellFault n true stood
  let c := t.chan n
  if c.fault ∨ t.faultSettled n = false then t
  else
    let u := t.setChan n { c with fault := true }
    if c.state = .faulted then u
    else (u.modifyChan n fun c => { c.undecided.emptyArbiter with onAir := none }).moveByEvent n .faulted

/-- FAULT_INACTIVE: the line is low and has been for `stood` microseconds. After 10 ms the fault condition becomes INACTIVE (R155). -/
def faultInactive (n : Fin 4) (stood : Nat) (s : State) : State :=
  let t := s.tellFault n false stood
  if t.faultSettled n then t.modifyChan n fun c => { c with fault := false } else t

/-! ### The channel requests -/

/-- A channel request: BAD PARAMETER when the number is above 3 (R143), and otherwise the request's own act on the channel. -/
def ownChannel (code : Byte) (act : Fin 4 → State → State) (f : List Byte) (s : State) : State :=
  match f with
  | [b] =>
    match fin4? b with
    | some n => act n s
    | none => s.refuse code .badParameter
  | _ => s.refuse code .badLength

/-- CARRIER ON (R144). -/
def ownCarrierOn (n : Fin 4) (s : State) : State :=
  if (s.chan n).state ≠ .off then s.refuse 0x41 .wrongState
  else if (s.chan n).spent then s.refuse 0x41 .switchLimit
  else ((s.moveChannel n .carrier).carrierOnEvent n).answer 0x41 .done []

/-- GO ON AIR (R145). -/
def ownGoOnAir (n : Fin 4) (s : State) : State :=
  if (s.chan n).state ≠ .carrier then s.refuse 0x42 .wrongState
  else if s.tb.grade = 6 ∨ (s.chan n).cfg.silence ≤ s.tb.grade then s.refuse 0x42 .gradeTooLow
  else (s.moveChannel n .cued).answer 0x42 .done []

/-- HOLD (R151). -/
def ownHold (n : Fin 4) (s : State) : State :=
  match (s.chan n).state with
  | .onAir =>
    if (s.chan n).holdPending then s.refuse 0x43 .wrongState
    else (s.modifyChan n fun c => { c.undecided with holdPending := true }).answer 0x43 .done []
  | .cued | .quiet | .resuming =>
    ((s.moveChannel n (.held .host)).modifyChan n fun c =>
      { c.undecided with heldSince := some s.ret.runSeconds }).answer 0x43 .done []
  | .off | .carrier | .held _ | .faulted => s.refuse 0x43 .wrongState

/-- RESUME (R152). -/
def ownResume (n : Fin 4) (s : State) : State :=
  match (s.chan n).state with
  | .held .calendar => s.refuse 0x44 .calendarHold
  | .held .host =>
    if (match (s.chan n).heldSince with | some t => s.ret.runSeconds.since t | none => 0) < 120 then s.refuse 0x44 .holdTooShort
    else if (s.chan n).spent then s.refuse 0x44 .switchLimit
    else (s.startResuming n).answer 0x44 .done []
  | .off | .carrier | .cued | .onAir | .quiet | .resuming | .faulted => s.refuse 0x44 .wrongState

/-- CARRIER OFF (R154). -/
def ownCarrierOff (n : Fin 4) (s : State) : State :=
  if (s.chan n).state = .off ∨ (s.chan n).state = .faulted then s.refuse 0x45 .wrongState
  else ((s.modifyChan n fun c => { c.undecided with onAir := none }).moveChannel n .off).answer 0x45 .done []

/-- CLEAR FAULT (R157). -/
def ownClearFault (n : Fin 4) (s : State) : State :=
  if (s.chan n).state ≠ .faulted then s.refuse 0x46 .wrongState
  else if (s.chan n).fault then s.refuse 0x46 .stillFaulted
  else (s.moveChannel n .off).answer 0x46 .done []

/-- The entry's scope holds channel `n`, which links profile `link` (R53). -/
def Payload.concerns (p : Payload) (n link : Fin 4) : Bool :=
  match p with
  | .offsetChange t _ _ => t == link
  | .leapInsert | .leapDelete => true
  | .interruption set _ => set.getLsbD n
  | .advisory set _ => set.getLsbD n

/-- The ident is that of an entry whose scope holds channel `n` when it links profile `link` (R53). -/
def State.scopeHolds (s : State) (n link : Fin 4) (ident : Nat) : Bool :=
  s.cal.entries.any fun e => e.ident == ident && e.payload.concerns n link

/-- The configuration written to a channel: the drive advance becomes the pending advance (R136, R141), and under a new link the entries outside
`scope`, which no longer concern the channel, leave its arbiter's record (R53, R103, log 41); a repeat of every value held changes nothing (R141, log 24). -/
def Channel.configure (scope : Nat → Bool) (cfg : ChannelConfig) (c : Channel) : Channel :=
  if cfg = c.cfg then c
  else { c with
    cfg := cfg, pendingAdvance := some cfg.drive
    arbiter := if cfg.link = c.cfg.link then c.arbiter else c.arbiter.keep scope }

/-- CONFIGURE CHANNEL (R141). -/
def ownConfigureChannel (f : List Byte) (s : State) : State :=
  match f with
  | [] => s.refuse 0x40 .badLength
  | b :: rest =>
    match fin4? b, channelConfig? rest with
    | some n, some cfg =>
      if (s.profiles.get cfg.link).defined = false then s.refuse 0x40 .badParameter
      else if (s.chan n).state.inService = true ∧ (cfg.link ≠ (s.chan n).cfg.link ∨ cfg.mode ≠ (s.chan n).cfg.mode) then
        s.refuse 0x40 .wrongState
      else (s.modifyChan n (Channel.configure (s.scopeHolds n cfg.link) cfg)).answer 0x40 .done []
    | _, _ => s.refuse 0x40 .badParameter

/-! ### READ CHANNEL -/

/-- The ten configuration bytes (11, section 12.3). -/
def ChannelConfig.bytes (c : ChannelConfig) : List Byte :=
  be8 c.link ++ be8 c.mode.code ++ be8 c.identity ++ be8 c.dwell ++ be8 c.doubt ++ be8 c.silence ++ be8 c.mask.code ++ be24 c.drive

/-- Up to four run-second times, the unused ones absent. -/
def beHistory (h : List RunSec) : List Byte :=
  be8 h.length ++ (h.take 4).flatMap (fun t => be32 t.toNat) ++ List.replicate (4 * (4 - h.length)) 0xFF

/-- An ident with its remaining dwell. -/
def Slot.bytes (x : Slot) : List Byte := be16 x.ident ++ be8 x.dwell

/-- The arbiter's record (R117): in service, stack top first, mark. The dwell byte of no notice in service is 0, as its ident is (log 39). -/
def Arbiter.bytes (a : Arbiter) : List Byte :=
  (match a.inService with | some x => x.bytes | none => [0, 0, 0]) ++
  be8 a.stack.length ++ (a.stack.take 4).flatMap Slot.bytes ++ List.replicate (3 * (4 - a.stack.length)) 0 ++
  beIdent a.mark

/-- The on-air frame summary (R138), 31 bytes after the first; all 0 when there is none. -/
def frameSummary (f : Option Frame) : List Byte :=
  match f with
  | none => List.replicate 32 0
  | some f =>
    [1] ++ beInstant f.occupied ++ beInstant f.labelled ++ be8 f.mode.code ++
    be16 f.civil.year ++ be8 f.civil.month ++ be8 f.civil.day ++ be8 f.civil.hour ++ be8 f.civil.minute ++ be8 f.civil.weekday ++
    be8s f.offset ++ beBool f.summer ++ be8 f.zone ++ be8 f.identity ++
    (match f.notice with | some x => be16 x.ident ++ be8 x.code ++ be8 x.countdown | none => [0, 0, 0, 0]) ++
    beBool f.doubt ++ beBool f.leap ++ be8 f.grade ++ be8 f.mask.code ++ be8 f.symbols.length

/-- The fields of a READ CHANNEL reply (R166). -/
def Channel.fields (c : Channel) : List Byte :=
  c.cfg.bytes ++ be8 c.state.code ++ beIdent c.heldBy ++ beRun c.heldSince ++ beBool c.holdPending ++ beBool c.resumeDeferred ++
  beIdent c.claim ++ beHistory c.history ++ c.arbiter.bytes ++ frameSummary c.onAir

/-- READ CHANNEL (R166). -/
def ownReadChannel (n : Fin 4) (s : State) : State := s.answer 0x47 .done (s.chan n).fields

end Sys2Proof.Machine
end

