-- ==== Sys2Proof/Machine/Calendar.lean ====
section
/-! DEFINITION. The Change Calendar (04): the collection, the ring, the boundary pass, the leap question and the discontinuity procedure. -/

namespace Sys2Proof.Machine

/-! ### Entries -/

/-- The kind of an entry (R49). -/
def Entry.kind (e : Entry) : Kind := e.payload.kind

/-- The announce start (R51). -/
def Entry.announceStart (e : Entry) : Nat := e.instant - 60 * e.lead

/-- The commit point (R51). -/
def Entry.commitPoint (e : Entry) : Nat := e.instant - 60

/-- The duration of an INTERRUPTION; 0 for the other kinds. -/
def Payload.duration (p : Payload) : Nat :=
  match p with
  | .interruption _ d => d
  | .offsetChange _ _ _ | .leapInsert | .leapDelete | .advisory _ _ => 0

/-- The outage end of an INTERRUPTION (R51). -/
def Entry.outageEnd (e : Entry) : Nat := e.instant + e.payload.duration

/-- The states of the entries in the ring (R61). -/
def EntryState.inRing (x : EntryState) : Bool :=
  match x with
  | .announcing | .committed => true
  | .scheduled | .inEffect | .done | .withdrawn => false

/-- `e` stands before `f` in calendar order (R56). -/
def Entry.precedes (e f : Entry) : Bool := e.instant < f.instant || (e.instant == f.instant && e.ident < f.ident)

/-- An entry put in its place in calendar order (R56). -/
def insertEntry (e : Entry) : List Entry → List Entry
  | [] => [e]
  | f :: rest => if e.precedes f then e :: f :: rest else f :: insertEntry e rest

/-- The entry that holds an ident. -/
def State.findEntry (s : State) (ident : Nat) : Option Entry := s.cal.entries.find? fun e => e.ident == ident

/-- The entry of an ident changed by `f`, which keeps its ident and its effective instant. -/
def State.modifyEntry (ident : Nat) (f : Entry → Entry) (s : State) : State :=
  { s with cal := { s.cal with entries := s.cal.entries.map fun e => if e.ident = ident then f e else e } }

/-! ### The ring -/

/-- An arbiter without an ident that has left the ring (R62, R112). -/
def Arbiter.forget (ident : Nat) (a : Arbiter) : Arbiter := a.keep fun i => i ≠ ident

/-- An entry leaves the ring: those behind close up, and the four arbiters take it out at once (R62, R112). An ident that is
not in the ring is handed to nobody. -/
def State.leaveRing (ident : Nat) (s : State) : State :=
  if ident ∈ s.cal.ring then
    { s with
      cal := { s.cal with ring := s.cal.ring.filter fun i => i ≠ ident }
      chans := s.chans.map fun c => { c with arbiter := c.arbiter.forget ident } }
  else s

/-- An entry joins the ring at its end and raises CHANGE ANNOUNCING (R61, R65, R75); one already in it keeps its place. -/
def State.joinRing (ident : Nat) (s : State) : State :=
  if ident ∈ s.cal.ring then s
  else ({ s with cal := { s.cal with ring := s.cal.ring ++ [ident] } }).raise .changeAnnouncing

/-- An entry is removed: it leaves the ring first, then the collection (R60). -/
def State.removeEntry (ident : Nat) (s : State) : State :=
  let t := s.leaveRing ident
  { t with cal := { t.cal with entries := t.cal.entries.filter fun e => e.ident ≠ ident } }

/-- The entry becomes DONE with an outcome (R55), and is removed when auto-retire is set (R71). -/
def State.finishEntry (e : Entry) (o : EntryOutcome) (s : State) : State :=
  let t := (s.leaveRing e.ident).modifyEntry e.ident fun e => { e with state := .done, outcome := some o }
  if e.autoRetire then t.removeEntry e.ident else t

/-- Every WITHDRAWN entry is removed (R71, R72, R78). -/
def State.removeWithdrawn (s : State) : State :=
  (s.cal.entries.filter fun e => e.state == .withdrawn).foldl (fun t e => t.removeEntry e.ident) s

/-- The target profile takes the offset and the summer flag; its label code and its state are kept (R43). -/
def State.applyOffset (profile : Fin 4) (offset : Int) (summer : Bool) (s : State) : State :=
  { s with profiles := s.profiles.set profile { s.profiles.get profile with offset := offset, summer := summer } }

/-- The profile effect of an entry: an OFFSET CHANGE is applied, the other kinds do nothing to a profile (R43, R44). -/
def State.applyPayload (p : Payload) (s : State) : State :=
  match p with
  | .offsetChange t o f => s.applyOffset t o f
  | .leapInsert | .leapDelete | .interruption _ _ | .advisory _ _ => s

/-! ### The boundary pass -/

/-- Window opening (R65). -/
def State.openEntry (now : Nat) (e : Entry) (s : State) : State :=
  if e.state = .scheduled ∧ e.announceStart ≤ now then
    (s.modifyEntry e.ident fun e =>
      { e with state := if e.commitPoint ≤ now then .committed else .announcing, locked := true }).joinRing e.ident
  else s

/-- Commit point (R66). -/
def State.commitEntry (now : Nat) (e : Entry) (s : State) : State :=
  if e.state = .announcing ∧ e.commitPoint ≤ now then s.modifyEntry e.ident fun e => { e with state := .committed } else s

/-- Effect, by the entry's kind (R68 to R70). -/
def State.effectEntry (now : Nat) (e : Entry) (s : State) : State :=
  if e.state.inRing ∧ e.instant = now then
    match e.kind with
    | .offsetChange => ((s.applyPayload e.payload).finishEntry e .onTime).raise .changeEffected
    | .advisory => (s.finishEntry e .onTime).raise .changeEffected
    | .leapInsert | .leapDelete =>
      if e.leapExecuted then (s.finishEntry e .onTime).raise .changeEffected
      else (s.finishEntry e .overtaken).raise .changeOvertaken
    | .interruption =>
      ((s.leaveRing e.ident).modifyEntry e.ident fun e => { e with state := .inEffect, locked := true }).raise .changeEffected
  else s

/-- Outage end: DONE, the release handed, INTERRUPTION ENDED (R71). -/
def State.endOutage (now : Nat) (e : Entry) (s : State) : State :=
  if e.state = .inEffect ∧ e.outageEnd = now then
    ((s.finishEntry e (if e.late then .overtaken else .onTime)).release e.ident).raise .interruptionEnded
  else s

/-- A move of the pass, made on the entry as the moves before it left it; an entry that is gone makes none. -/
def State.onEntry (ident : Nat) (move : Entry → State → State) (s : State) : State :=
  match s.findEntry ident with
  | some e => move e s
  | none => s

/-- The moves of one entry at a minute boundary, in the order of section 5.4 (R64). -/
def State.passEntry (now ident : Nat) (s : State) : State :=
  (((s.onEntry ident (State.openEntry now)).onEntry ident (State.commitEntry now)).onEntry ident
    (State.effectEntry now)).onEntry ident (State.endOutage now)

/-- The boundary pass of the minute `now` (R64). -/
def State.boundaryPass (now : Nat) (s : State) : State :=
  let t := s.removeWithdrawn
  (t.cal.entries.map Entry.ident).foldl (fun t i => t.passEntry now i) t

/-! ### The questions others ask -/

/-- The calendar holds a COMMITTED LEAP entry of the kind with the effective instant (R67). -/
def Calendar.committedLeap (c : Calendar) (k : Kind) (instant : Nat) : Bool :=
  c.entries.any fun e => e.kind == k && e.state == .committed && e.instant == instant

/-- The second that follows `u`, by the leap question of its end, without setting a mark (R11, R12, R67, R120). -/
def State.secondAfter (s : State) (u : UtcSecond) : UtcSecond :=
  if u.second = 58 ∧ endsMonth u.minute ∧ s.cal.committedLeap .leapDelete (u.minute + 1) then ⟨u.minute + 1, 0⟩
  else if u.second = 59 ∧ endsMonth u.minute ∧ s.cal.committedLeap .leapInsert (u.minute + 1) then ⟨u.minute, 60⟩
  else if 59 ≤ u.second then ⟨u.minute + 1, 0⟩
  else ⟨u.minute, u.second + 1⟩

/-- The kind of leap that the question at the end of `u` is about, if there is one (R67). -/
def leapAsked (u : UtcSecond) : Option Kind :=
  if endsMonth u.minute then
    if u.second = 59 then some .leapInsert else if u.second = 58 then some .leapDelete else none
  else none

/-- The leap question asked by the timebase at the end of `u`: a yes sets the entry's leap executed mark (R67). -/
def State.askLeap (u : UtcSecond) (s : State) : State :=
  match leapAsked u with
  | none => s
  | some k =>
    { s with cal := { s.cal with entries := s.cal.entries.map fun e =>
        if e.kind = k ∧ e.state = .committed ∧ e.instant = u.minute + 1 then { e with leapExecuted := true } else e } }

/-- The interruption claim for channel `n` and the minute `m`: the first entry in calendar order that meets its terms (R59). -/
def State.interruptionClaim (s : State) (n : Fin 4) (m : Nat) : Option Nat :=
  (s.cal.entries.find? fun e =>
    e.kind == .interruption && (e.state == .committed || e.state == .inEffect) && e.payload.concerns n 0 &&
      decide (e.instant ≤ m) && decide (m < e.outageEnd)).map Entry.ident

/-- The pending count of a profile: its OFFSET CHANGE entries in any state but DONE (R42). -/
def State.pendingCount (s : State) (i : Fin 4) : Nat :=
  s.cal.entries.countP fun e =>
    match e.payload with
    | .offsetChange t _ _ => t == i && e.state != .done
    | .leapInsert | .leapDelete | .interruption _ _ | .advisory _ _ => false

/-- The profile as it will stand at the minute `l` (R45). -/
def State.profileAt (s : State) (i : Fin 4) (l : Nat) : Profile :=
  s.cal.entries.foldl
    (fun p e =>
      match e.payload with
      | .offsetChange t o f =>
        if t = i ∧ e.state = .committed ∧ e.instant ≤ l then { p with offset := o, summer := f } else p
      | .leapInsert | .leapDelete | .interruption _ _ | .advisory _ _ => p)
    (s.profiles.get i)

/-! ### The discontinuity procedure -/

/-- The state an entry's times give it for the minute `now` before its effective instant (R75). -/
def Entry.stateAt (e : Entry) (now : Nat) : EntryState :=
  if e.commitPoint ≤ now then .committed else if e.announceStart ≤ now then .announcing else .scheduled

/-- An entry whose effective instant is not passed takes the state its times give; ring and marks follow (R75). -/
def State.recomputeEntry (now : UtcSecond) (e : Entry) (s : State) : State :=
  let st := e.stateAt now.minute
  let t := s.modifyEntry e.ident fun e =>
    { e with
      state := st
      locked := e.locked || st.inRing
      leapExecuted := e.leapExecuted && now.second == 60 && now.minute + 1 == e.instant }
  if st.inRing then t.joinRing e.ident else t.leaveRing e.ident

/-- An entry whose effective instant is passed is taken into effect late (R73). A LEAP entry keeps its leap executed mark (log 43). -/
def State.takeLate (now : Nat) (e : Entry) (s : State) : State :=
  let t := s.modifyEntry e.ident fun e => { e with locked := true }
  let u := match e.kind with
    | .interruption =>
      if e.outageEnd ≤ now then t.finishEntry e .overtaken
      else (t.leaveRing e.ident).modifyEntry e.ident fun e => { e with state := .inEffect, late := true }
    | .offsetChange | .leapInsert | .leapDelete | .advisory => (t.applyPayload e.payload).finishEntry e .overtaken
  u.raise .changeOvertaken

/-- An entry already IN EFFECT (R74). -/
def State.replaceInEffect (now : UtcSecond) (e : Entry) (s : State) : State :=
  if e.outageEnd ≤ now.minute then ((s.finishEntry e .overtaken).release e.ident).raise .changeOvertaken
  else if e.instant ≤ now.minute then s
  else ((s.modifyEntry e.ident fun e => { e with late := false }).recomputeEntry now e).release e.ident

/-- The leap second of a LEAP entry fell within the outage that began at `loss` and ends at the reconstructed second `now` (R76). -/
def Entry.leapWithin (e : Entry) (loss now : UtcSecond) : Bool :=
  match e.kind with
  | .leapInsert => loss.before ⟨e.instant - 1, 60⟩ && decide (e.instant ≤ now.minute)
  | .leapDelete => loss.before ⟨e.instant - 1, 59⟩ && !now.before ⟨e.instant - 1, 59⟩
  | .offsetChange | .interruption | .advisory => false

/-- The reconstructed second moved for a LEAP entry: back for an insertion, forward for a deletion (R76). -/
def Entry.corrected (e : Entry) (now : UtcSecond) : UtcSecond :=
  match e.kind with
  | .leapInsert => if now = ⟨e.instant, 0⟩ then ⟨e.instant - 1, 60⟩ else .ofLinear (now.linear - 1)
  | .leapDelete => .ofLinear (now.linear + 1)
  | .offsetChange | .interruption | .advisory => now

/-- Station time moved by the leap correction, its phase kept (R76). -/
def State.moveTime (u : UtcSecond) (s : State) : State :=
  { s with tb := { s.tb with time := some u }, ret := { s.ret with century := centuryOf u.minute } }

/-- The procedure takes one entry (R73 to R76), judged by the time the corrections before it left (log 38). `loss` is the second at loss in a warm start's procedure, and none in any other. -/
def State.procedureEntry (loss : Option UtcSecond) (ident : Nat) (s : State) : State :=
  match s.tb.time, s.findEntry ident with
  | some now, some e =>
    match e.state with
    | .done | .withdrawn => s
    | .inEffect => s.replaceInEffect now e
    | .scheduled | .announcing | .committed =>
      if loss.elim false (fun l => e.leapWithin l now) then
        (s.moveTime (e.corrected now)).takeLate now.minute e
      else if e.instant ≤ now.minute then s.takeLate now.minute e
      else s.recomputeEntry now e
  | _, _ => s

/-- The discontinuity procedure (R72): each entry once, in calendar order (log 38). -/
def State.discontinuity (loss : Option UtcSecond) (s : State) : State :=
  let t := s.removeWithdrawn
  let u := (t.cal.entries.map Entry.ident).foldl (fun t i => t.procedureEntry loss i) t
  { u with chans := u.chans.map Channel.emptyArbiter }

end Sys2Proof.Machine
end

