-- ==== Sys2Proof/Machine/Arbiters.lean ====
section
/-! DEFINITION. The Notice Arbiter's pass (06): candidates, Drop, Vacate, Challenge, Choose, Carry. -/

namespace Sys2Proof.Machine

/-- A candidate: its ident with its effective level (R101, R102). -/
structure Candidate where
  ident : Nat
  level : Nat
  deriving DecidableEq, Repr

/-- The effective level: 0 for a COMMITTED entry, else the stored level (R102). -/
def Entry.effectiveLevel (e : Entry) : Nat := if e.state = .committed then 0 else e.level

/-- The entry is a candidate of channel `n` for the labelled minute `l` (R101). -/
def State.isCandidate (s : State) (n : Fin 4) (l : Nat) (e : Entry) : Bool :=
  e.state.inRing && e.payload.concerns n (s.chan n).cfg.link && decide (l < e.instant)

/-- The ring in the order of the search that begins after the rotation mark (R63, R111). -/
def searchOrder (mark : Option Nat) (ring : List Nat) : List Nat :=
  match mark with
  | none => ring
  | some m =>
    if m ∈ ring then (ring.dropWhile fun i => i ≠ m).drop 1 ++ (ring.takeWhile fun i => i ≠ m) ++ [m] else ring

/-- The candidates of channel `n` for the labelled minute `l`, in the order of the search (R101, R111). -/
def State.candidates (s : State) (n : Fin 4) (l : Nat) : List Candidate :=
  (searchOrder (s.chan n).arbiter.mark s.cal.ring).filterMap fun i =>
    match s.findEntry i with
    | some e => if s.isCandidate n l e then some ⟨i, e.effectiveLevel⟩ else none
    | none => none

/-- The first of lowest level in a list (R107, R111). -/
def lowest : List Candidate → Option Candidate
  | [] => none
  | c :: rest =>
    match lowest rest with
    | none => some c
    | some d => if c.level ≤ d.level then some c else some d

/-- The candidate of an ident. -/
def candidateOf (cands : List Candidate) (ident : Nat) : Option Candidate := cands.find? fun c => c.ident == ident

/-- The ident is held by the arbiter, in service or on the stack. -/
def Arbiter.holds (a : Arbiter) (ident : Nat) : Bool :=
  (match a.inService with | some x => x.ident == ident | none => false) || a.stack.any fun x => x.ident == ident

/-- Drop (R105): what is no longer a candidate leaves the slot and the stack. -/
def Arbiter.drop (cands : List Candidate) (a : Arbiter) : Arbiter := a.keep fun i => (candidateOf cands i).isSome

/-- Vacate (R106): an in-service notice whose dwell has run out leaves the slot. -/
def Arbiter.vacate (a : Arbiter) : Arbiter :=
  { a with inService := match a.inService with
      | some x => if x.dwell = 0 then none else some x
      | none => none }

/-- The stacked candidates, top first. -/
def Arbiter.stacked (cands : List Candidate) (a : Arbiter) : List Candidate :=
  a.stack.filterMap fun x => candidateOf cands x.ident

/-- The best free candidate (R101, R111). -/
def Arbiter.bestFree (cands : List Candidate) (a : Arbiter) : Option Candidate :=
  lowest (cands.filter fun c => !a.holds c.ident)

/-- The challenger with whether it is stacked: lowest level first, a stacked one before a free one of that level (R107). -/
def Arbiter.challenger (cands : List Candidate) (a : Arbiter) : Option (Candidate × Bool) :=
  match lowest (a.stacked cands), a.bestFree cands with
  | some x, some y => if x.level ≤ y.level then some (x, true) else some (y, false)
  | some x, none => some (x, true)
  | none, some y => some (y, false)
  | none, none => none

/-- The displaced notice goes on top of the stack; a fifth record is discarded from the bottom (R108). -/
def pushSlot (x : Slot) (stack : List Slot) : List Slot := (x :: stack).take 4

/-- Challenge (R107, R108). -/
def Arbiter.challenge (cands : List Candidate) (dwell : Nat) (a : Arbiter) : Arbiter :=
  match a.inService, a.challenger cands with
  | some cur, some (c, fromStack) =>
    if c.level < ((candidateOf cands cur.ident).elim 8 Candidate.level) then
      if fromStack then
        { a with
          inService := a.stack.find? fun x => x.ident == c.ident
          stack := pushSlot cur (a.stack.filter fun x => x.ident ≠ c.ident) }
      else { inService := some ⟨c.ident, dwell⟩, stack := pushSlot cur a.stack, mark := some c.ident }
    else a
  | _, _ => a

/-- Choose (R109): with nothing in service, the stack top resumes or a more urgent free candidate goes in service. -/
def Arbiter.choose (cands : List Candidate) (dwell : Nat) (a : Arbiter) : Arbiter :=
  match a.inService with
  | some _ => a
  | none =>
    match a.stack, a.bestFree cands with
    | [], none => a
    | [], some c => { a with inService := some ⟨c.ident, dwell⟩, mark := some c.ident }
    | top :: rest, none => { a with inService := some top, stack := rest }
    | top :: rest, some c =>
      if c.level < ((candidateOf cands top.ident).elim 8 Candidate.level) then
        { a with inService := some ⟨c.ident, dwell⟩, mark := some c.ident }
      else { a with inService := some top, stack := rest }

/-- Carry (R110): the in-service notice's remaining dwell falls by one. -/
def Arbiter.carry (a : Arbiter) : Arbiter :=
  { a with inService := match a.inService with
      | some x => some { x with dwell := x.dwell - 1 }
      | none => none }

/-- The pass up to Choose: what Carry then hands on is in service. -/
def Arbiter.chosen (cands : List Candidate) (dwell : Nat) (a : Arbiter) : Arbiter :=
  (((a.drop cands).vacate).challenge cands dwell).choose cands dwell

/-- The arbiter of channel `n` after its pass up to Choose for the labelled minute `l` (R104). -/
def State.passArbiter (s : State) (n : Fin 4) (l : Nat) : Arbiter :=
  (s.chan n).arbiter.chosen (s.candidates n l) (s.chan n).cfg.dwell

/-- The notice code (R116). -/
def Kind.noticeCode (k : Kind) : Nat := k.code

/-- The countdown field: whole hours to the effective instant, at most 15, or the advisory number (R116). -/
def Entry.countdown (e : Entry) (l : Nat) : Nat :=
  match e.payload with
  | .advisory _ number => number
  | .offsetChange _ _ _ | .leapInsert | .leapDelete | .interruption _ _ => min 15 ((e.instant - l) / 60)

/-- The notice the arbiter hands on for the labelled minute `l`: its ident, code and countdown (R110, R116). -/
def State.noticeOf (s : State) (a : Arbiter) (l : Nat) : Option Notice :=
  match a.inService with
  | some x => (s.findEntry x.ident).map fun e => ⟨x.ident, e.kind.noticeCode, e.countdown l⟩
  | none => none

end Sys2Proof.Machine
end

