-- ==== Sys2Proof/Machine/Composer.lean ====
section
/-! DEFINITION. The Frame Composer (07): fields, parity, suppression, leap frames, the staged frame, and the keying of symbols. -/

namespace Sys2Proof.Machine

/-- The bits of a field, least significant first (R121). -/
def fieldBits (n v : Nat) : List Bool := (List.range n).map fun i => v.testBit i

/-- A decimal number's units and tens fields, of `u` and `t` bits (R121). -/
def bcdBits (u t v : Nat) : List Bool := fieldBits u (v % 10) ++ fieldBits t (v / 10 % 10)

/-- The parity second over the bits as keyed: O when they hold an odd number of O (R123). -/
def parityBit (bits : List Bool) : Bool := bits.foldl (fun p b => p != b) false

/-- A segment as keyed: all Z when it is suppressed (R128). -/
def suppress (on : Bool) (bits : List Bool) : List Bool := if on then bits.map fun _ => false else bits

/-- A bit's symbol (R121). -/
def bitSymbol (b : Bool) : Symbol := if b then .o else .z

/-- The bits of a run of seconds with their parity second last. -/
def withParity (bits : List Bool) : List Bool := bits ++ [parityBit bits]

/-- Which leap, if any, the frame that occupies the minute `m` has: that of a COMMITTED LEAP entry whose effective instant ends the minute (R124). -/
def State.frameLeap (s : State) (m : Nat) : Option Kind :=
  if s.cal.committedLeap .leapInsert (m + 1) then some .leapInsert
  else if s.cal.committedLeap .leapDelete (m + 1) then some .leapDelete
  else none

/-- The closing seconds: second 59, and second 60 of an insertion; none for a deletion (R124). -/
def closing (leap : Option Kind) : List Symbol :=
  match leap with
  | some .leapInsert => [.z, .z]
  | some .leapDelete => []
  | _ => [.z]

/-- The symbol list of the table of section 8.2 (R121 to R124, R128). -/
def frameSymbols (code countdown : Nat) (doubt : Bool) (c : Civil) (summer : Bool) (leap : Option Kind) (zone identity : Nat)
    (mask : Mask) : List Symbol :=
  let notice := suppress mask.notice (fieldBits 3 code ++ fieldBits 4 countdown ++ [doubt])
  let minute := bcdBits 4 3 c.minute
  let flags := [summer, leap.isSome]
  let hour := bcdBits 4 2 c.hour
  let day := suppress mask.date (bcdBits 4 2 c.day ++ fieldBits 3 c.weekday)
  let year := suppress mask.date (bcdBits 4 1 c.month ++ bcdBits 4 4 (c.year % 100))
  [.f] ++ (withParity notice).map bitSymbol ++ (withParity minute).map bitSymbol ++ flags.map bitSymbol ++
  [.m] ++ (hour ++ [parityBit (flags ++ hour)]).map bitSymbol ++ (withParity day).map bitSymbol ++
  (fieldBits 2 zone).map bitSymbol ++
  [.m] ++ (withParity year).map bitSymbol ++ (suppress mask.identity (fieldBits 4 identity)).map bitSymbol ++ closing leap

/-- The labelled minute of a frame that occupies `m` (R125). -/
def labelledMinute (mode : LabelMode) (m : Nat) : Nat :=
  match mode with
  | .current => m
  | .forward => m + 1

/-- The frame record of channel `n` for the occupied minute `m`, with the arbiter's choice `a` (R122, R126 to R130). -/
def State.frameFor (s : State) (n : Fin 4) (m : Nat) (a : Arbiter) : Frame :=
  let cfg := (s.chan n).cfg
  let l := labelledMinute cfg.mode m
  let p := s.profileAt cfg.link l
  let notice := if cfg.mask.notice then none else s.noticeOf a l
  let doubt := decide (cfg.doubt ≤ s.tb.grade)
  let leap := s.frameLeap m
  let civil := civilOf ((l : Int) + 15 * p.offset)
  { occupied := m, labelled := l, mode := cfg.mode
    symbols := frameSymbols (notice.elim 0 Notice.code) (notice.elim 0 Notice.countdown) doubt civil p.summer leap p.labelCode
      cfg.identity cfg.mask
    civil := civil, offset := p.offset, summer := p.summer, zone := p.labelCode, identity := cfg.identity, notice := notice
    doubt := doubt, leap := leap.isSome, grade := s.tb.grade, mask := cfg.mask }

/-- The channel as its composition begins: ON AIR it goes on with its arbiter's record, and in any other state it starts from a clean one, its mark kept (R113, R149). The record is
clean there already, but for a channel that left the air and came back before a channel boundary, and a QUIET one whose boundary a first-selection step
jumped over after it had composed (log 42). -/
def Channel.beginFrame (c : Channel) : Channel := if c.state = .onAir then c else c.emptyArbiter

/-- Composition of channel `n`'s frame for the occupied minute `m`: the arbiter's pass, unless NOTICE is suppressed, and the staged frame (R129). -/
def State.compose (n : Fin 4) (m : Nat) (s : State) : State :=
  let t := s.modifyChan n Channel.beginFrame
  let c := t.chan n
  if c.cfg.mask.notice then t.setChan n { c with staged := some (t.frameFor n m c.arbiter) }
  else
    let a := t.passArbiter n (labelledMinute c.cfg.mode m)
    t.setChan n { c with arbiter := a.carry, staged := some (t.frameFor n m a) }

/-- At least 40 s of station time lie between a channel's resume start and the composition instant `now` (R153). A resume start that lies after `now` is not due (log 44). -/
def Channel.due (c : Channel) (now : Moment) : Bool :=
  match c.resumeStart with
  | some r => r.micros + 40000000 ≤ now.micros
  | none => false

/-- The channel would key the next minute (R147). -/
def Channel.wouldKey (c : Channel) (now : Moment) : Bool :=
  match c.state with
  | .onAir => !c.holdPending
  | .cued | .quiet => true
  | .resuming => c.due now
  | .off | .carrier | .held _ | .faulted => false

/-- A channel that is to be decided anew: a claim or decision still held of an earlier instant, whose boundary a first-selection step jumped over, gives way. A staged
frame stays as it is unless another is composed (R129, log 23). -/
def Channel.reopened (c : Channel) : Channel := { c with claim := none, claimCancelled := false, quietDecided := false }

/-- The decision of channel `n` at the composition instant of the minute `now`: claim, silence or compose (R147). It is the one that the next channel boundary carries
out (R148). -/
def State.decideChannel (now : Nat) (n : Fin 4) (s : State) : State :=
  let m := now + 1
  if (s.chan n).wouldKey ⟨now, 50, 0⟩ then
    let t := s.modifyChan n Channel.reopened
    let c := t.chan n
    match t.interruptionClaim n m with
    | some id => t.setChan n { c with claim := some id }
    | none =>
      if t.tb.grade = 6 ∨ c.cfg.silence ≤ t.tb.grade ∨ minutesKept ≤ m then t.setChan n { c with quietDecided := true }
      else t.compose n m
  else s

/-- The composition instant of the minute `now` (R129, R147). -/
def State.compositionInstant (now : Nat) (s : State) : State := s.eachChannel (State.decideChannel now)

/-- The timed changes of CHn_KEY after the leading edge of a symbol at the FIN count `t`, with `us` FIN periods in a microsecond (R119). -/
def Symbol.plan (x : Symbol) (t us : Nat) : List KeyChange :=
  match x with
  | .z => [⟨t + 150000 * us, false⟩]
  | .o => [⟨t + 300000 * us, false⟩]
  | .m => [⟨t + 600000 * us, false⟩]
  | .f => [⟨t + 150000 * us, false⟩, ⟨t + 300000 * us, true⟩, ⟨t + 450000 * us, false⟩]

/-- Channel `n` is being measured. -/
def State.measures (s : State) (n : Fin 4) : Bool :=
  match s.meter.working with
  | some w => w.channel == n
  | none => false

/-- What channel `n` keys in a channel second labelled with second `k`: its on-air frame's symbol, a test pulse while it is measured
in CARRIER, or nothing (R119, R134, R142, R171). -/
def State.keyPlanFor (s : State) (n : Fin 4) (k : Nat) : List KeyChange :=
  let c := s.chan n
  match c.state with
  | .onAir => ((c.onAir.bind fun f => f.symbols[k]?).map fun x => x.plan s.fin s.perMicro).getD []
  | .carrier => if s.measures n then [⟨s.fin + 20000 * s.perMicro, false⟩] else []
  | .off | .cued | .quiet | .held _ | .resuming | .faulted => []

/-- The keying of a channel second's leading edge (R119): CHn_KEY is asserted when something is keyed. -/
def State.keySecond (n : Fin 4) (k : Nat) (s : State) : State :=
  let plan := s.keyPlanFor n k
  s.modifyChan n fun c => { c with key := !plan.isEmpty, keyPlan := plan }

/-- KEYING_TIMED_CHANGE: the next timed change of CHn_KEY falls (R119, R171). -/
def keyingTimedChange (n : Fin 4) (s : State) : State :=
  match (s.chan n).keyPlan with
  | [] => s
  | x :: rest => (s.elapseTo x.due).modifyChan n fun c => { c with key := x.level, keyPlan := rest }

/-- Channel `n`'s next channel second is labelled `v` and due: at once when the station second `v` has begun, else the advance in force before the end of
the station second in progress (R120, log 23). -/
def State.toChannelSecond (n : Fin 4) (v : UtcSecond) (s : State) : State :=
  if s.tb.time = some v then s
  else s.elapse (s.tb.length - (s.chan n).inForce * s.perMicro - s.tb.elapsed)

/-- CHANNEL_SECOND_START: the channel second begins. What follows it is decided (R120), a pending advance is taken at the start of a minute's last
second (R136), the decision is carried out at second 0 (R148), the symbol or test pulse is keyed and a sampling second's window opens (R119, R172). -/
def channelSecondStart (n : Fin 4) (s : State) : State :=
  match (s.chan n).nextSecond with
  | none => s
  | some v =>
    let w := s.secondAfter v
    let t := (s.toChannelSecond n v).modifyChan n fun c =>
      if w.second = 0 then { c with nextSecond := some w, inForce := c.pendingAdvance.getD c.inForce, pendingAdvance := none }
      else { c with nextSecond := some w }
    let u := if v.second = 0 then t.channelBoundary n else t
    (u.keySecond n v.second).openWindow n

end Sys2Proof.Machine
end

