-- ==== Sys2Proof/Machine/Timebase.lean ====
section
/-! DEFINITION. The Timebase (01) and the second evaluation (02, section 3.6): the length of a second, what a second's start hands on, steps and
placements of station time, the fall into UNSET, SET TIME and READ TIME. -/

namespace Sys2Proof.Machine

/-! ### The length of a second -/

/-- The holdover frequency estimate in ns per second (R9). -/
def estimate (window : List Int) : Int :=
  if window = [] then 0 else (window.sum * 1000).tdiv window.length

/-- A correction joins the end of the window, which holds the last 64 (R9). -/
def enterWindow (window : List Int) (c : Int) : List Int := (window ++ [c]).drop (window.length + 1 - 64)

/-- e limited to the range -50 to +50 microseconds (R7). -/
def slewOf (e : Int) : Int := max (-50) (min 50 e)

/-- A correction in ns with the carried remainder, resolved to FIN periods of `period` ns, a half to the larger (R1): the periods. -/
def resolvePeriods (total period : Int) : Int := (2 * total + period).fdiv (2 * period)

/-- The second in progress takes a correction in ns, with the remainder that came into it: its length and the remainder it hands on (R1). -/
def State.correct (ns : Int) (s : State) : State :=
  let total := ns + s.tb.carried
  let n := resolvePeriods total s.periodNs
  { s with tb := { s.tb with
      length := ((s.nominalLength : Int) + n).toNat
      remainder := total - n * s.periodNs } }

/-- The window with the correction `c` of the second in progress; one that the second was to have until now is not applied, and gives way to it (R7, R9, log 28). -/
def Timebase.windowWith (c : Int) (b : Timebase) : List Int :=
  if b.slewed then b.window.dropLast ++ [c] else enterWindow b.window c

/-- The second in progress takes the slew of the measured e, which is entered in the window (R7, R9). -/
def State.slew (e : Int) (s : State) : State :=
  ({ s with tb := { s.tb with window := s.tb.windowWith (slewOf e), slewed := true } }).correct (slewOf e * 1000)

/-- The length of the station second that begins (R1): in LOCKED after a measurement below 0 it takes the slew; otherwise the estimate (R7, R10), which in LOCKED gives
way to the slew of a measurement taken in the second itself (log 28). -/
def State.setLength (s : State) : State :=
  let t := { s with tb := { s.tb with carried := s.tb.remainder, measured := none, slewed := false } }
  match s.tb.state, s.tb.measured with
  | .locked, some e => t.slew e
  | _, _ => t.correct (estimate s.tb.window)

/-! ### The second evaluation -/

/-- A candidate is QUALIFIED with its agreement flag set (R28). -/
def RefRecord.candidate (r : RefRecord) : Bool := r.state == .qualified && r.agreement

/-- One more, staying at 65,535 (R27). -/
def bumpRun (n : Nat) : Nat := min 65535 (n + 1)

/-- The candidate run brought up to date (R29). -/
def RefRecord.evaluated (r : RefRecord) : RefRecord :=
  { r with candidateRun := if r.candidate then bumpRun r.candidateRun else 0 }

/-- The selection after an evaluation (R29). -/
def State.selectionAfter (s : State) : Option Ref :=
  match s.mon.selection with
  | none =>
    if s.mon.a.candidate && (s.mon.a.priority == 1 || !s.mon.b.candidate) then some .a
    else if s.mon.b.candidate then some .b
    else none
  | some r =>
    if (s.ref r).candidate then
      if s.mon.revertive && (s.ref r).priority != 1 && decide (60 ≤ (s.ref (otherRef r)).candidateRun) then some (otherRef r)
      else some r
    else if (s.ref (otherRef r)).candidate then some (otherRef r)
    else none

/-- The leap mismatch flag of the reference cleared: it stops being selected, or is newly selected (R29, R33). -/
def State.clearMismatch (r : Option Ref) (s : State) : State :=
  match r with
  | some r => s.setRef r { s.ref r with leapMismatch := false }
  | none => s

/-- The selection becomes `sel`; a change raises REFERENCE CHANGED (R29, R35). `first` says that a first GOOD edge is awaited (R30). -/
def State.select (sel : Option Ref) (first : Bool) (s : State) : State :=
  if sel = s.mon.selection then s
  else
    let t := (s.clearMismatch s.mon.selection).clearMismatch sel
    ({ t with mon := { t.mon with selection := sel, firstEdge := first } }).raise .referenceChanged

/-- The timebase follows the selection (R5): LOCKED while a reference is selected; from LOCKED to HOLDOVER when none is. The change of state derives the grade at once,
from the held phase error as it stands (R13, log 40). -/
def State.followSelection (s : State) : State :=
  match s.mon.selection, s.tb.state with
  | some _, .locked => s
  | some _, _ => ({ s with tb := { s.tb with state := .locked, holdoverStart := none } }).deriveGrade
  | none, .locked =>
    ({ s with tb := { s.tb with
        state := .holdover, holdoverStart := some s.ret.runSeconds, phaseError := 0, measured := none } }).deriveGrade
  | none, _ => s

/-- The second evaluation (R29). -/
def State.evaluate (s : State) : State :=
  let t := { s with mon := { s.mon with a := s.mon.a.evaluated, b := s.mon.b.evaluated } }
  let sel := t.selectionAfter
  (t.select sel (t.mon.selection.isNone && sel.isSome)).followSelection

/-! ### The start of a station second -/

/-- The minute boundary of the minute `now`: the boundary pass, then the deferred-resume tests (R64, R160). -/
def State.minuteBoundary (now : Nat) (s : State) : State :=
  (s.boundaryPass now).eachChannel State.testDeferred

/-- The start of the station second in progress is handed on (R1), in the order of 95: second evaluation, the second's length, minute boundary,
composition instant (log 9). -/
def State.handOn (u : UtcSecond) (s : State) : State :=
  let t := s.evaluate.setLength
  if u.second = 0 then t.minuteBoundary u.minute
  else if u.second = 50 then t.compositionInstant u.minute
  else t

/-- A channel at the fall into UNSET: a boundary of 2200-01-01 00:00 still to come is carried out, and there are no channel seconds from then on (R148). -/
def State.endChannel (n : Fin 4) (s : State) : State :=
  let t := if (s.chan n).nextSecond = some ⟨minutesKept, 0⟩ then s.channelBoundary n else s
  t.modifyChan n fun c => { c.releaseKey with nextSecond := none, onAir := none, staged := none }

/-- The timebase falls into UNSET at the end of 2199 (R1, R5): no time, grade 6, phase error 0, no selection (log 12), the measurement aborted (R175). -/
def State.fallUnset (s : State) : State :=
  let t := s.abortMeasurement
  let u := (({ t with tb := { t.tb with state := .unset, time := none, elapsed := 0, measured := none, phaseError := 0 } }).select
    none false).deriveGrade
  u.eachChannel State.endChannel

/-- The label of the channel second that begins next after a placement, a step or a start (R120, log 23). -/
def State.channelSecondNow (s : State) (u : UtcSecond) (c : Channel) : UtcSecond :=
  if s.phase = 0 ∧ c.inForce = 0 then u
  else if 1000000 ≤ s.phase + c.inForce then s.secondAfter (s.secondAfter u)
  else s.secondAfter u

/-- The channel seconds follow station time where it is placed or stepped (R120). -/
def State.placeChannels (u : UtcSecond) (s : State) : State :=
  { s with chans := s.chans.map fun c => { c with nextSecond := some (s.channelSecondNow u c) } }

/-- The station second `u` has ended: the leap question is asked, and the second after it begins (R1, R11, R12). At a step the channel seconds move with it,
and one whose start is jumped over is not produced (R120). -/
def State.nextStationSecond (stepped : Bool) (u : UtcSecond) (s : State) : State :=
  let v := s.secondAfter u
  let t := s.askLeap u
  if minutesKept ≤ v.minute then t.fallUnset
  else (if stepped then (t.placeLabel v).placeChannels v else t.placeLabel v).handOn v

/-- STATION_SECOND: the count of FIN periods of the second in progress is complete (R1). -/
def stationSecond (s : State) : State :=
  match s.tb.time with
  | none => s
  | some u => (s.elapse (s.tb.length - s.tb.elapsed)).nextStationSecond false u

/-! ### Steps and placements -/

/-- A QUIET channel at a placement of station time: staged frame, claim and decision are gone (R150). -/
def Channel.placed (c : Channel) : Channel := if c.state = .quiet then c.undecided else c

/-- Station time is placed at the start of the second `u`, by SET TIME or an adoption: the measurement is aborted (R175), QUIET channels lose their decisions
(R150), the discontinuity procedure runs (R72), and the second's start is handed on (R8, R15). The second cut short keeps its place in the window (log 28) and asks
no leap question (log 47). -/
def State.place (u : UtcSecond) (s : State) : State :=
  let t := s.abortMeasurement.placeLabel u
  let t := { t with
    tb := { t.tb with remainder := 0, measured := none, phaseError := 0, holdoverStart := none }
    chans := t.chans.map Channel.placed }
  ((t.deriveGrade.discontinuity none).placeChannels u).handOn u

/-- A first-selection step at the reference edge (R8): the second nearest the edge begins there. The one in progress restarts under its own label, with a
second evaluation and a length of its own and no minute boundary or composition instant; the one that follows begins as any second does (log 10). -/
def State.stepPhase (s : State) : State :=
  let p := s.phase
  let t := s.abortMeasurement
  let t := ({ t with
    tb := { t.tb with remainder := 0, measured := none, phaseError := 0 }
    mon := { t.mon with firstEdge := false } }).deriveGrade
  match t.tb.time with
  | none => t
  | some u =>
    if p < 500000 then ({ t with tb := { t.tb with elapsed := 0 } }).evaluate.setLength else t.nextStationSecond true u

/-- The phase error at an edge that falls at station phase `p` (R6). -/
def phaseErrorOf (p : Nat) : Int := if p < 500000 then p else (p : Int) - 1000000

/-- A GOOD edge of the selected reference is measured (R6), and at a first selection it steps station time when |e| is above 100 microseconds and no channel is in
ON AIR, CUED or RESUMING (R8); otherwise it corrects the second whose start is nearest the edge: the one in progress from 0 up, the one about to begin
below 0 (R7, log 28). -/
def State.measure (s : State) : State :=
  let e := phaseErrorOf s.phase
  if s.tb.time.isNone then s
  else if s.mon.firstEdge ∧ 100 < e.natAbs ∧ s.anyHoldsTime = false then s.stepPhase
  else
    let t := { s with tb := { s.tb with phaseError := e }, mon := { s.mon with firstEdge := false } }
    (if e < 0 then { t with tb := { t.tb with measured := some e } }
     else if t.tb.state = .locked then t.slew e
     else t).deriveGrade

/-- The minute an adopted label places: its year completed with the held century (R2, R8); a day the month does not have gives a free value (log 13). -/
def State.adoptedMinute (s : State) (l : Label) : Nat :=
  let year := s.ret.century * 100 + l.year
  if dateExists year l.month l.day then minuteOf year l.month l.day l.hour l.minute
  else Config.absentDayMinute year l.month l.day l.hour l.minute % minutesKept

/-- The adoption of reference `r` with the label `l`, at its edge (R8, R31): it becomes the selection, the timebase is LOCKED, station time is placed. -/
def State.adopt (r : Ref) (l : Label) (s : State) : State :=
  let t := s.select (some r) false
  let t := t.setRef r { t.ref r with agreement := true, carried := false }
  let t := { t with tb := { t.tb with state := .locked }, mon := { t.mon with firstEdge := false } }
  t.place ⟨t.adoptedMinute l, l.second⟩

/-! ### SET TIME and READ TIME -/

/-- SET TIME (R15). -/
def ownSetTime (f : List Byte) (s : State) : State :=
  match f with
  | [y, mo, d, h, mi, sec] =>
    match instant? y mo d h mi, inRange? 0 59 sec.toNat with
    | some m, some sec =>
      if s.tb.state = .locked then s.refuse 0x11 .wrongState
      else if s.anyHoldsTime then s.refuse 0x11 .channelsOnAir
      else (({ s with tb := { s.tb with state := .free } }).place ⟨m, sec⟩).answer 0x11 .done []
    | _, _ => s.refuse 0x11 .badParameter
  | _ => s.refuse 0x11 .badLength

/-- The date, time, phase and weekday fields of READ TIME with the timebase's other fields between them (R16); in UNSET the first are all 0. -/
def State.timeFields (s : State) : List Byte :=
  (match s.tb.time with
   | some u =>
     let c := civilOf (u.minute : Int)
     be16 c.year ++ be8 c.month ++ be8 c.day ++ be8 c.hour ++ be8 c.minute ++ be8 u.second ++ be24 s.phase ++ be8 c.weekday
   | none => List.replicate 11 0) ++
  be8 s.tb.state.code ++ be8 s.tb.grade ++ beBool s.tb.gradeChanged ++ be32s s.tb.phaseError ++ be32 s.holdoverDuration ++
  be8 s.ret.century

/-- READ TIME (R16): the grade-changed flag is returned and then cleared (R14). -/
def ownReadTime (f : List Byte) (s : State) : State :=
  match f with
  | [] => ({ s with tb := { s.tb with gradeChanged := false } }).answer 0x10 .done s.timeFields
  | _ => s.refuse 0x10 .badLength

/-- HOLDOVER_BAND_REACHED: the grade is derived from the run second that has come (R13). -/
def holdoverBandReached (s : State) : State := s.deriveGrade

end Sys2Proof.Machine
end

