-- ==== Sys2Proof/Machine/References.lean ====
section
/-! DEFINITION. The Reference Monitor (02): messages, verdicts, labels, qualification, agreement, adoption, the leap check, and the reference requests. -/

namespace Sys2Proof.Machine

/-! ### Labels -/

/-- The year of a label, its digits taken as 2000 to 2099 (R25). -/
def Label.fullYear (l : Label) : Nat := 2000 + l.year

/-- 23:59 of the last day of a month (R25). -/
def Label.lastMinute (l : Label) : Bool :=
  l.hour == 23 && l.minute == 59 && l.day == monthLength l.fullYear l.month

/-- A valid UTC second (R25). -/
def Label.valid (l : Label) : Bool :=
  l.year ≤ 99 && dateExists l.fullYear l.month l.day && l.hour ≤ 23 && l.minute ≤ 59 &&
    (l.second ≤ 59 || (l.second == 60 && l.lastMinute))

/-- 00:00:00 of the next day; the year digits go from 99 to 0 (log 33). -/
def Label.nextDay (l : Label) : Label :=
  if l.day < monthLength l.fullYear l.month then ⟨l.year, l.month, l.day + 1, 0, 0, 0⟩
  else if l.month < 12 then ⟨l.year, l.month + 1, 1, 0, 0, 0⟩
  else ⟨(l.year + 1) % 100, 1, 1, 0, 0, 0⟩

/-- 00 seconds of the next minute. -/
def Label.nextMinute (l : Label) : Label :=
  if l.minute < 59 then { l with minute := l.minute + 1, second := 0 }
  else if l.hour < 23 then { l with hour := l.hour + 1, minute := 0, second := 0 }
  else l.nextDay

/-- The label advanced by one second, with the leap its status announced (R25). -/
def Message.advanced (m : Message) : Message :=
  let l := m.label
  { m with label :=
      if l.second = 59 ∧ l.lastMinute ∧ m.leapInsert then { l with second := 60 }
      else if l.second = 58 ∧ l.lastMinute ∧ m.leapDelete then l.nextDay
      else if l.second < 59 then { l with second := l.second + 1 }
      else l.nextMinute }

/-- The label of a station second, with two year digits (R28). -/
def labelOfSecond (u : UtcSecond) : Label :=
  let c := civilOf (u.minute : Int)
  ⟨c.year % 100, c.month, c.day, c.hour, c.minute, u.second⟩

/-! ### The message line -/

/-- The start value of a message (02, section 3.3). -/
def startValue : Byte := 0xF5

/-- The bits that are 1 in a character. -/
def onesOf (v : Byte) : Nat := (List.range 8).countP fun i => v.getLsbD i

/-- The parity bit is right: the data bits and it hold an odd number of ones (R23). -/
def parityRight (v : Byte) (parity : Bool) : Bool := (onesOf v + parity.toNat) % 2 == 1

/-- Ten characters read as a message: start, six label characters, status, spare, check (R23). None when the check does not match. -/
def message? (cs : List Byte) : Option Message :=
  match cs with
  | [_, y, mo, d, h, mi, s, status, spare, check] =>
    if y ^^^ mo ^^^ d ^^^ h ^^^ mi ^^^ s ^^^ status ^^^ spare = check then
      some ⟨⟨y.toNat, mo.toNat, d.toNat, h.toNat, mi.toNat, s.toNat⟩, status.getLsbD 0, status.getLsbD 1, status.getLsbD 2⟩
    else none
  | _ => none

/-- A character without error joins the message line (R23); a complete message whose last character comes too `late` is not taken (R24, log 37). -/
def RefRecord.takeCharacter (v : Byte) (late : Bool) (r : RefRecord) : RefRecord :=
  let n := r.assembly.length
  if n = 0 then { r with assembly := if v = startValue then [v] else [] }
  else if n ≤ 7 ∧ v = startValue then { r with assembly := [v], lineError := true }
  else if n < 9 then { r with assembly := r.assembly ++ [v] }
  else
    match message? (r.assembly ++ [v]) with
    | some m => { r with assembly := [], held := if late then r.held else some m }
    | none => { r with assembly := [], lineError := true }

/-- The moment lies more than 950 ms after the reference's anchor (R24). -/
def State.pastDeadline (r : Ref) (s : State) : Bool :=
  match (s.ref r).anchor with
  | some a => (a + 950000) * s.perMicro < s.fin
  | none => false

/-- REFERENCE_CHARACTER: a character with its parity bit and the level of its stop bit (R23, R24). An OFF reference's line is not read. -/
def referenceCharacter (r : Ref) (v : Byte) (parity stop : Bool) (s : State) : State :=
  let x := s.ref r
  if x.state = .off then s
  else if parityRight v parity && stop then s.setRef r (x.takeCharacter v (s.pastDeadline r))
  else s.setRef r { x with assembly := [], lineError := true }

/-- LATE_MESSAGE: a message still in assembly 950 ms after the anchor is discarded (R24). -/
def lateMessage (r : Ref) (s : State) : State :=
  let x := s.ref r
  match x.anchor with
  | none => s
  | some a =>
    if x.assembly = [] then s
    else (s.elapseTo ((a + 950000) * s.perMicro)).setRef r { x with assembly := [], lineError := true }

/-! ### Verdicts and qualification -/

/-- The edge lies within 1 ms of one second after the anchor (R22). -/
def onTime (anchor t : Nat) : Bool := anchor + 999000 ≤ t && t ≤ anchor + 1001000

/-- The verdict of an edge taken at the interval time `t` with the anchor held (R25). -/
def RefRecord.verdictAt (anchor t : Nat) (r : RefRecord) : Verdict :=
  if !onTime anchor t then .offTime
  else
    match r.held with
    | none => if r.lineError then .lineError else .noMessage
    | some m =>
      if r.lineError then .lineError
      else if !m.label.valid || (match r.lastLabel with | some l => l.advanced.label != m.label | none => false) then .badLabel
      else if !m.timeValid || (m.leapInsert && m.leapDelete) then .invalid
      else .good

/-- The last label brought up to date after a verdict (R26); the message is what was held, none after NO EDGE (R25). -/
def RefRecord.updateLabel (held : Option Message) (r : RefRecord) : RefRecord :=
  let l := match held with
    | some m =>
      if m.label.valid then (if r.lineError then r.lastLabel.map Message.advanced else some m) else none
    | none => r.lastLabel.map Message.advanced
  { r with lastLabel := l, held := none, lineError := false }

/-- A move out of QUALIFIED clears what belonged to it (R27); a carried adoption is dropped (R31). -/
def RefRecord.unqualified (r : RefRecord) : RefRecord :=
  { r with state := .acquiring, agreement := false, disagreementReported := false, leapMismatch := false, carried := false }

/-- The runs and the state after a verdict (R27). -/
def RefRecord.qualify (v : Verdict) (r : RefRecord) : RefRecord :=
  if v = .good then
    let good := bumpRun r.goodRun
    let x := { r with goodRun := good, faultRun := 0 }
    if r.state = .acquiring ∧ 10 ≤ good then { x with state := .qualified, disagreementReported := false } else x
  else
    let fault := bumpRun r.faultRun
    let x := { r with faultRun := fault }
    if r.state = .qualified then
      if v = .badLabel ∨ v = .invalid ∨ 5 ≤ fault then { x.unqualified with goodRun := 0 } else x
    else { x with goodRun := 0 }

/-- A reference's record after a verdict (R25 to R27). -/
def RefRecord.judged (v : Verdict) (r : RefRecord) : RefRecord :=
  let held := if v = .noEdge then none else r.held
  ({ (r.updateLabel held) with lastVerdict := some v }).qualify v

/-- The verdict is taken into the record. A change of state raises REFERENCE CHANGED (R35); a reference that leaves QUALIFIED ends an ADOPT
REFERENCE that waits for it, WRONG STATE (R32). -/
def State.judge (r : Ref) (v : Verdict) (s : State) : State :=
  let x := s.ref r
  let y := x.judged v
  let t := s.setRef r y
  let t := if y.state = x.state then t else t.raise .referenceChanged
  if x.state = .qualified ∧ y.state ≠ .qualified ∧ t.link = .working (.adopting r) then
    { t with link := .replyHeld [0x12, Result.wrongState.byte] }
  else t

/-- The label of the station second nearest an edge that falls now (R28): the one in progress below 500,000 microseconds, else the one that follows, which after the last of 2199
is 2200-01-01 00:00:00 (log 46). -/
def State.nearestLabel (s : State) : Option Label :=
  s.tb.time.map fun u => labelOfSecond (if s.phase < 500000 then u else s.secondAfter u)

/-- Agreement at a GOOD verdict of a QUALIFIED reference (R28); in UNSET the flag is cleared. -/
def State.judgeAgreement (r : Ref) (s : State) : State :=
  let x := s.ref r
  if x.state = .qualified then
    s.setRef r { x with agreement :=
      match x.lastLabel, s.nearestLabel with
      | some m, some l => m.label == l
      | _, _ => false }
  else s

/-! ### Adoption and the leap check -/

/-- The part adopts on its own: the timebase is UNSET or no channel is in service (R31). -/
def State.mayAdopt (s : State) : Bool := s.tb.state == .unset || !s.anyInService

/-- The calendar holds a LEAP entry of the kind at the instant, in any state but WITHDRAWN (R33). -/
def Calendar.holdsLeap (c : Calendar) (k : Kind) (instant : Nat) : Bool :=
  c.entries.any fun e => e.kind == k && e.state != .withdrawn && e.instant == instant

/-- The status of a message matches the calendar at the end of the label's month (R33); the year is completed with the held century (log 19). -/
def State.leapMatches (m : Message) (s : State) : Bool :=
  let at_ := monthEndInstant (s.ret.century * 100 + m.label.year) m.label.month
  m.leapInsert == s.cal.holdsLeap .leapInsert at_ && m.leapDelete == s.cal.holdsLeap .leapDelete at_

/-- The leap agreement check at a GOOD verdict of the selected reference, with the message just taken (R33). -/
def State.checkLeap (r : Ref) (s : State) : State :=
  let x := s.ref r
  match x.lastLabel with
  | none => s
  | some m =>
    if s.leapMatches m then s.setRef r { x with leapMismatch := false }
    else if x.leapMismatch then s
    else (s.setRef r { x with leapMismatch := true }).raise .leapDisagree

/-- Adoption at the edge with the label `l`; a label of second 60 carries it to the reference's next GOOD edge (R8, R31). -/
def State.adoptOrCarry (r : Ref) (l : Label) (s : State) : State :=
  if l.second = 60 then s.setRef r { s.ref r with carried := true } else s.adopt r l

/-- A GOOD verdict that no waiting ADOPT REFERENCE takes: the selected reference's leap flags are compared (R33), before it is measured (R30), whose step may end
its selection and then clears what the check set (log 18);
with none selected, a carried adoption is taken or dropped, and a QUALIFIED reference that disagrees is adopted or reported (R31). -/
def State.goodEdge (r : Ref) (l : Label) (s : State) : State :=
  let x := s.ref r
  let t := s.setRef r { x with carried := false }
  if x.carried ∧ s.mon.selection = none ∧ s.mayAdopt then t.adoptOrCarry r l
  else if s.mon.selection = some r then (t.checkLeap r).measure
  else if s.mon.selection = none ∧ x.state = .qualified ∧ x.agreement = false then
    if s.mayAdopt then t.adoptOrCarry r l
    else if x.disagreementReported then t
    else (t.setRef r { x with carried := false, disagreementReported := true }).raise .timeDisagree
  else t

/-- A GOOD verdict met by an ADOPT REFERENCE that waits for the reference: the checks again, then the adoption with DONE held (R32). A label of second 60 goes on
waiting, and at the next GOOD edge it meets these checks alone (log 36). Where the adoption is taken TIME DISAGREE is not raised (log 45). The leap check of a reference already selected is made as at any GOOD verdict
(log 18). -/
def State.adoptRequested (r : Ref) (l : Label) (s : State) : State :=
  if (s.ref r).state ≠ .qualified then ({ s with link := .replyHeld [0x12, Result.wrongState.byte] }).goodEdge r l
  else if s.anyHoldsTime then ({ s with link := .replyHeld [0x12, Result.channelsOnAir.byte] }).goodEdge r l
  else if l.second = 60 then s.goodEdge r l
  else
    let t := if s.mon.selection = some r then s.checkLeap r else s
    { t.adopt r l with link := .replyHeld [0x12, Result.done.byte] }

/-- A verdict reached at an edge: the record, the agreement, and what a GOOD one does (R25 to R33). -/
def State.reachVerdict (r : Ref) (v : Verdict) (s : State) : State :=
  let t := s.judge r v
  if v = .good then
    let t := t.judgeAgreement r
    match (t.ref r).lastLabel with
    | none => t
    | some m => if t.link = .working (.adopting r) then t.adoptRequested r m.label else t.goodEdge r m.label
  else t

/-- The first edge without an anchor: it becomes the anchor; a complete message without line error gives the last label (R22, log 16). A line error seen before a change
of polarity cleared the anchor still counts (log 17). -/
def RefRecord.anchored (t : Nat) (r : RefRecord) : RefRecord :=
  { r with
    anchor := some t
    lastLabel := if r.lineError then r.lastLabel else (match r.held with | some m => some m | none => r.lastLabel)
    held := none
    lineError := false }

/-- REFERENCE_EDGE: an edge of REFx_PPS with the length in microseconds of the pulse it begins. It is a reference edge when it is the chosen one, its pulse lasts 5 microseconds
and the reference is not OFF (R21). -/
def referenceEdge (r : Ref) (edge : Edge) (pulse : Nat) (s : State) : State :=
  let x := s.ref r
  if x.state = .off ∨ edge ≠ x.polarity ∨ pulse < 5 then s
  else
    let t := s.intervalMicros
    match x.anchor with
    | none => s.setRef r (x.anchored t)
    | some a => (s.setRef r { x with anchor := some t }).reachVerdict r (x.verdictAt a t)

/-- NO_EDGE: no edge by 1.1 s after the anchor; the anchor moves forward by exactly one second (R22). -/
def noEdge (r : Ref) (s : State) : State :=
  let x := s.ref r
  match x.anchor with
  | none => s
  | some a =>
    if x.state = .off then s
    else ((s.elapseTo ((a + 1100000) * s.perMicro)).setRef r { x with anchor := some (a + 1000000) }).reachVerdict r .noEdge

/-! ### The reference requests -/

/-- A reference's runs set to 0. -/
def RefRecord.runsCleared (r : RefRecord) : RefRecord := { r with goodRun := 0, faultRun := 0, candidateRun := 0 }

/-- What CONFIGURE REFERENCE makes of the named reference's record (R20). Line error seen is cleared when the reference is enabled, and a change of polarity keeps it
(log 17). -/
def RefRecord.configure (enabled : Bool) (polarity : Edge) (priority : Nat) (r : RefRecord) : RefRecord :=
  let x := { r with enabled := enabled, polarity := polarity, priority := priority }
  if r.enabled ∧ ¬enabled then
    { x.runsCleared.unqualified with
      state := .off, anchor := none, lastLabel := none, lastVerdict := none, assembly := [], held := none }
  else if ¬r.enabled ∧ enabled then
    { x.runsCleared with
      state := .acquiring, anchor := none, lastLabel := none, held := none, assembly := [], lineError := false }
  else if enabled ∧ polarity ≠ r.polarity then { x.runsCleared.unqualified with anchor := none, held := none }
  else x

/-- CONFIGURE REFERENCE (R19, R20). -/
def ownConfigureReference (f : List Byte) (s : State) : State :=
  match f with
  | [r, line, priority, revertive] =>
    match ref? r, lineByte? line, inRange? 1 2 priority.toNat, yesNo? revertive with
    | some r, some (enabled, polarity), some priority, some revertive =>
      let x := s.ref r
      let y := x.configure enabled polarity priority
      let t := (s.setRef r y).setRef (otherRef r) { s.ref (otherRef r) with priority := 3 - priority }
      let t := { t with mon := { t.mon with revertive := revertive } }
      let t := if y.state = x.state then t else t.raise .referenceChanged
      t.answer 0x13 .done []
    | _, _, _, _ => s.refuse 0x13 .badParameter
  | _ => s.refuse 0x13 .badLength

/-- ADOPT REFERENCE when it is taken: its checks, and then it waits in WORKING (R32). -/
def ownAdoptReference (f : List Byte) (s : State) : State :=
  match f with
  | [r] =>
    match ref? r with
    | none => s.refuse 0x12 .badParameter
    | some r =>
      if (s.ref r).state ≠ .qualified then s.refuse 0x12 .wrongState
      else if s.anyHoldsTime then s.refuse 0x12 .channelsOnAir
      else { s with link := .working (.adopting r) }
  | _ => s.refuse 0x12 .badLength

/-- A label's six bytes and its status, all 0xFF when none is held (11, section 12.3). -/
def beLabel (m : Option Message) : List Byte :=
  match m with
  | none => List.replicate 7 0xFF
  | some m =>
    be8 m.label.year ++ be8 m.label.month ++ be8 m.label.day ++ be8 m.label.hour ++ be8 m.label.minute ++ be8 m.label.second ++
    be8 (m.timeValid.toNat + 2 * m.leapInsert.toNat + 4 * m.leapDelete.toNat)

/-- The fields of a READ REFERENCE reply (R34). -/
def State.referenceFields (s : State) (r : Ref) : List Byte :=
  let x := s.ref r
  beBool x.enabled ++ beBool (x.polarity == .falling) ++ be8 x.priority ++ beBool s.mon.revertive ++ be8 x.state.code ++
  be16 x.goodRun ++ be16 x.faultRun ++ be16 x.candidateRun ++ be8 (verdictCode x.lastVerdict) ++ beLabel x.lastLabel ++
  beBool x.agreement ++ beBool (s.mon.selection == some r)

/-- READ REFERENCE (R34). -/
def ownReadReference (f : List Byte) (s : State) : State :=
  match f with
  | [r] =>
    match ref? r with
    | some r => s.answer 0x14 .done (s.referenceFields r)
    | none => s.refuse 0x14 .badParameter
  | _ => s.refuse 0x14 .badLength

end Sys2Proof.Machine
end

