-- ==== Sys2Proof/Machine/Profiles.lean ====
section
/-! DEFINITION. The Profile Table's requests (03, section 4.2). -/

namespace Sys2Proof.Machine

/-- A channel links profile `i` (R39). -/
def State.linked (s : State) (i : Fin 4) : Bool := s.chans.toList.any fun c => c.cfg.link == i

/-- Profile `i` is in service-use: a channel in service links it (R39). -/
def State.inServiceUse (s : State) (i : Fin 4) : Bool :=
  s.chans.toList.any fun c => c.cfg.link == i && c.state.inService

/-- Profile `i` replaced. -/
def State.setProfile (s : State) (i : Fin 4) (p : Profile) : State := { s with profiles := s.profiles.set i p }

/-- DEFINE PROFILE (R40). -/
def ownDefineProfile (f : List Byte) (s : State) : State :=
  match f with
  | [i, label, offset, summer] =>
    match fin4? i, fin4? label, offset? offset, yesNo? summer with
    | some i, some label, some offset, some summer =>
      if s.inServiceUse i then s.refuse 0x20 .profileInUse
      else (s.setProfile i { defined := true, labelCode := label, offset := offset, summer := summer }).answer 0x20 .done []
    | _, _, _, _ => s.refuse 0x20 .badParameter
  | _ => s.refuse 0x20 .badLength

/-- CLEAR PROFILE (R41). -/
def ownClearProfile (f : List Byte) (s : State) : State :=
  match f with
  | [i] =>
    match fin4? i with
    | some i =>
      if s.linked i || decide (0 < s.pendingCount i) then s.refuse 0x21 .profileInUse
      else (s.setProfile i .unused).answer 0x21 .done []
    | none => s.refuse 0x21 .badParameter
  | _ => s.refuse 0x21 .badLength

/-- The fields of a READ PROFILE reply (R42). -/
def State.profileFields (s : State) (i : Fin 4) : List Byte :=
  let p := s.profiles.get i
  beBool p.defined ++ be8 p.labelCode ++ be8s p.offset ++ beBool p.summer ++ be8 (s.pendingCount i)

/-- READ PROFILE (R42). -/
def ownReadProfile (f : List Byte) (s : State) : State :=
  match f with
  | [i] =>
    match fin4? i with
    | some i => s.answer 0x22 .done (s.profileFields i)
    | none => s.refuse 0x22 .badParameter
  | _ => s.refuse 0x22 .badLength

end Sys2Proof.Machine
end

