-- ==== Sys2Proof/Machine/CalendarRequests.lean ====
section
/-! DEFINITION. The calendar requests (05): the checks of ENTER CHANGE, the ident, and the six requests. -/

namespace Sys2Proof.Machine

/-! ### The checks -/

/-- The parts of two spans of minutes overlap: each begins before the other ends (R85, R86). -/
def overlap (a b c d : Nat) : Bool := a < d && c < b

/-- The terms conflict with an entry of the calendar (R84 to R86). -/
def Terms.conflictsWith (t : Terms) (e : Entry) : Bool :=
  match t.payload, e.payload with
  | .leapInsert, .leapInsert | .leapInsert, .leapDelete | .leapDelete, .leapInsert | .leapDelete, .leapDelete =>
    e.state != .withdrawn && e.instant == t.instant
  | .offsetChange p _ _, .offsetChange q _ _ =>
    e.state != .withdrawn && e.state != .done && p == q &&
      overlap (t.instant - 60 * t.lead) t.instant e.announceStart e.instant
  | .interruption c d, .interruption k _ =>
    e.state != .withdrawn && e.state != .done && (c &&& k) != 0 && overlap t.instant (t.instant + d) e.instant e.outageEnd
  | _, _ => false

/-- The profile the terms need is UNUSED (R82). -/
def State.lacksProfile (s : State) (p : Payload) : Bool :=
  match p with
  | .offsetChange i _ _ => !(s.profiles.get i).defined
  | .leapInsert | .leapDelete | .interruption _ _ | .advisory _ _ => false

/-- The first of the checks NO TIME, NO PROFILE, TOO SOON, TOO FAR and CONFLICT that fails (R82 to R86); `others` are the entries compared.
The limits are compared in seconds, against the start of the second in progress (R83). -/
def State.checkTerms (s : State) (t : Terms) (others : List Entry) : Option Result :=
  match s.tb.time with
  | none => some .noTime
  | some now =>
    if s.tb.grade = 6 then some .noTime
    else if s.lacksProfile t.payload then some .noProfile
    else if t.instant * 60 < now.linear + 3600 * t.lead + 120 then some .tooSoon
    else if now.linear + 576000 * 60 < t.instant * 60 then some .tooFar
    else if others.any t.conflictsWith then some .conflict
    else none

/-! ### Idents and the count -/

/-- The ident after `i`: 65535 is followed by 1 (R58). -/
def identAfter (i : Nat) : Nat := if i = 65535 then 1 else i + 1

/-- The first ident from `i` on that no entry holds, within the tries given (R58). -/
def freeIdent (entries : List Entry) : Nat → Nat → Nat
  | 0, i => i
  | tries + 1, i => if entries.any fun e => e.ident == i then freeIdent entries tries (identAfter i) else i

/-- The entry that ENTER CHANGE adds (R87). -/
def newEntry (ident : Nat) (t : Terms) (level : Nat) (auto : Bool) : Entry :=
  { ident := ident, payload := t.payload, state := .scheduled, instant := t.instant, lead := t.lead, level := level
    autoRetire := auto, locked := false, late := false, leapExecuted := false, outcome := none }

/-- An entry is added: its ident, its place, the next ident, the count (R57, R58, R87). -/
def State.addEntry (t : Terms) (level : Nat) (auto : Bool) (s : State) : State :=
  let ident := freeIdent s.cal.entries 33 s.cal.nextIdent
  let u := { s with cal := { s.cal with
    entries := insertEntry (newEntry ident t level auto) s.cal.entries, nextIdent := identAfter ident } }
  (if s.cal.entries.length = 27 then u.raise .calendarNearFull else u).answer 0x30 .done (be16 ident)

/-! ### The requests -/

/-- ENTER CHANGE (R80 to R87). -/
def ownEnterChange (f : List Byte) (s : State) : State :=
  match f with
  | [] => s.refuse 0x30 .badLength
  | k :: rest =>
    match kind? k, changeFields? rest with
    | some k, some f =>
      match f.terms? k, level? k f.level, yesNo? f.auto with
      | some t, some level, some auto =>
        match s.checkTerms t s.cal.entries with
        | some r => s.refuse 0x30 r
        | none => if 32 ≤ s.cal.entries.length then s.refuse 0x30 .calendarFull else s.addEntry t level auto
      | _, _, _ => s.refuse 0x30 .badParameter
    | _, _ => s.refuse 0x30 .badParameter

/-- The entry that holds the ident of two bytes, WITHDRAWN ones left out (R88, R91, R92). -/
def State.openChange (s : State) (hi lo : Byte) : Option Entry :=
  match s.findEntry (word16 hi lo) with
  | some e => if e.state = .withdrawn then none else some e
  | none => none

/-- The terms of an entry (05, section 6.3). -/
def Entry.terms (e : Entry) : Terms := ⟨e.instant, e.lead, e.payload⟩

/-- The terms path of AMEND CHANGE (R89). -/
def State.amendLevel (e : Entry) (level : Option Nat) (auto : Option Bool) (s : State) : State :=
  match level, auto with
  | some level, some auto => (s.modifyEntry e.ident fun e => { e with level := level, autoRetire := auto }).answer 0x31 .done []
  | _, _ => s.refuse 0x31 .badParameter

/-- An entry's terms, level and auto-retire are replaced, and it moves to its new place in calendar order (R56, R90). -/
def State.replaceTerms (e : Entry) (t : Terms) (level : Nat) (auto : Bool) (s : State) : State :=
  let e' := { e with instant := t.instant, lead := t.lead, payload := t.payload, level := level, autoRetire := auto }
  { s with cal := { s.cal with entries := insertEntry e' (s.cal.entries.filter fun x => x.ident ≠ e.ident) } }

/-- The changing path of AMEND CHANGE (R90). -/
def State.amendTerms (e : Entry) (t : Option Terms) (level : Option Nat) (auto : Option Bool) (s : State) : State :=
  if e.locked then s.refuse 0x31 .locked
  else
    match t, level, auto with
    | some t, some level, some auto =>
      match s.checkTerms t (s.cal.entries.filter fun x => x.ident ≠ e.ident) with
      | some r => s.refuse 0x31 r
      | none => (s.replaceTerms e t level auto).answer 0x31 .done []
    | _, _, _ => s.refuse 0x31 .badParameter

/-- AMEND CHANGE (R88 to R90). -/
def ownAmendChange (f : List Byte) (s : State) : State :=
  match f with
  | hi :: lo :: rest =>
    match changeFields? rest with
    | none => s.refuse 0x31 .badLength
    | some f =>
      match s.openChange hi lo with
      | none => s.refuse 0x31 .noSuchChange
      | some e =>
        if e.state = .done then s.refuse 0x31 .wrongState
        else
          let t := f.terms? e.kind
          let level := level? e.kind f.level
          if t = some e.terms then s.amendLevel e level (yesNo? f.auto) else s.amendTerms e t level (yesNo? f.auto)
  | _ => s.refuse 0x31 .badLength

/-- WITHDRAW CHANGE (R91). -/
def ownWithdrawChange (f : List Byte) (s : State) : State :=
  match f with
  | [hi, lo] =>
    match s.openChange hi lo with
    | none => s.refuse 0x32 .noSuchChange
    | some e =>
      match e.state with
      | .scheduled => (s.removeEntry e.ident).answer 0x32 .done []
      | .announcing =>
        ((s.leaveRing e.ident).modifyEntry e.ident fun e => { e with state := .withdrawn }).answer 0x32 .done []
      | .committed | .inEffect => s.refuse 0x32 .locked
      | .done => s.refuse 0x32 .wrongState
      | .withdrawn => s.refuse 0x32 .noSuchChange
  | _ => s.refuse 0x32 .badLength

/-- RETIRE CHANGE (R92, R93). -/
def ownRetireChange (f : List Byte) (s : State) : State :=
  match f with
  | [hi, lo] =>
    match s.openChange hi lo with
    | none => s.refuse 0x33 .noSuchChange
    | some e =>
      match e.state with
      | .done => (s.removeEntry e.ident).answer 0x33 .done []
      | .inEffect => ((s.finishEntry e .cutShort).release e.ident).answer 0x33 .done []
      | .scheduled | .announcing | .committed => s.refuse 0x33 .wrongState
      | .withdrawn => s.refuse 0x33 .noSuchChange
  | _ => s.refuse 0x33 .badLength

/-! ### Reading and finding -/

/-- The ring position of an ident, counted from 1; 0 when it is not in the ring (R63). -/
def ringPosition (ring : List Nat) (ident : Nat) : Nat :=
  match ring.findIdx? fun i => i == ident with
  | some k => k + 1
  | none => 0

/-- The payload fields as READ CHANGE returns them, the fields of other kinds 0 (R94). -/
def Payload.bytes (p : Payload) : List Byte :=
  match p with
  | .offsetChange t o f => be8 t ++ be8s o ++ beBool f ++ [0, 0, 0, 0]
  | .leapInsert | .leapDelete => List.replicate 7 0
  | .interruption c d => [0, 0, 0] ++ be8 c.toNat ++ be16 d ++ [0]
  | .advisory c n => [0, 0, 0] ++ be8 c.toNat ++ [0, 0] ++ be8 n

/-- The fields of a READ CHANGE reply (R94). -/
def Entry.fields (ring : List Nat) (e : Entry) : List Byte :=
  be16 e.ident ++ be8 e.kind.code ++ be8 e.state.code ++ beInstant e.instant ++ be8 e.lead ++ be8 e.level ++
  beBool e.autoRetire ++ beBool e.locked ++ e.payload.bytes ++ beBool e.late ++ beBool e.leapExecuted ++
  be8 (outcomeCode e.outcome) ++ be8 (ringPosition ring e.ident)

/-- READ CHANGE (R94). -/
def ownReadChange (f : List Byte) (s : State) : State :=
  match f with
  | [hi, lo] =>
    match s.findEntry (word16 hi lo) with
    | none => s.refuse 0x34 .noSuchChange
    | some e => s.answer 0x34 .done (e.fields s.cal.ring)
  | _ => s.refuse 0x34 .badLength

/-- A set of FIND CHANGE holds the thing numbered `n`, from 1; other weights are ignored. -/
def setHolds (set : Byte) (n : Nat) : Bool := set.getLsbD (n - 1)

/-- FIND CHANGE (R95). -/
def ownFindChange (f : List Byte) (s : State) : State :=
  match f with
  | [y, mo, d, h, mi, kinds, states, skip] =>
    match instant? y mo d h mi, inRange? 0 31 skip.toNat with
    | some start, some skip =>
      let found := s.cal.entries.filter fun e =>
        decide (start ≤ e.instant) && setHolds kinds e.kind.code && setHolds states e.state.code
      s.answer 0x35 .done (be8 found.length ++ beIdent (found[skip]?.map Entry.ident))
    | _, _ => s.refuse 0x35 .badParameter
  | _ => s.refuse 0x35 .badLength

end Sys2Proof.Machine
end

