-- ==== Sys2Proof/Machine/Starts.lean ====
section
/-! DEFINITION. Supply loss and starts (10): the loss moment, cold and warm starts, the supplies, RESET_N, and RESET PART. -/

namespace Sys2Proof.Machine

/-! ### What survives -/

/-- A reference with its configuration kept and everything else at its start value (R37). -/
def RefRecord.restarted (r : RefRecord) : RefRecord := .start r.enabled r.polarity r.priority

/-- A channel with its configuration and its history kept, and everything else at its start value; a start finds the times of 1,800 run seconds gone
from the history (R168, R186). -/
def Channel.restarted (kind : Option StartKind) (now : RunSec) (c : Channel) : Channel :=
  .start c.cfg (if kind.isSome then pruneHistory now c.history else c.history) c.faultLine.high c.monitorHigh

/-- The part with its retained records, its pins and its queue kept, and the working state of every block at its start value (R37, R118, R139, R168, R177, R184,
R185); `kind` is none while the part is stopped (R179, log 8). -/
def State.restarted (kind : Option StartKind) (s : State) : State :=
  { s with
    fin := 0
    tb := Timebase.start s.fselPin
    mon := { s.mon with a := s.mon.a.restarted, b := s.mon.b.restarted, selection := none, firstEdge := false }
    chans := s.chans.map (Channel.restarted kind s.ret.runSeconds)
    meter := { working := none, results := Four.all none }
    link := .idle
    att := { flags := 0, enables := if kind.isSome then 0x1FFF else 0, startKind := kind } }

/-! ### The loss moment -/

/-- The loss record, written at the first loss moment since the start (R180). -/
def State.lossRecord (fraction : Ticks) (s : State) : Option Loss :=
  match s.ret.loss with
  | some l => some l
  | none => some { time := s.moment, run := s.ret.runSeconds, fraction := fraction }

/-- A loss moment: the loss record is written and the working state is lost (R179, R180). A part that is stopped already has no loss moment. -/
def State.lossMoment (fraction : Ticks) (s : State) : State :=
  if s.running then
    ({ s with ret := { s.ret with fraction := fraction, loss := s.lossRecord fraction } }).restarted none
  else s

/-! ### Starts -/

/-- The flags after a start: START, and after a warm start the CHANGE OVERTAKEN that its procedure raised (R187). -/
def startFlags (raised : BitVec 13) : BitVec 13 := Cause.start.weight ||| (raised &&& Cause.changeOvertaken.weight)

/-- The end of a start: the flags of R187, the loss record cleared, the marker set (R181, R184, R185). -/
def State.started (s : State) : State :=
  { s with
    att := { s.att with flags := startFlags s.att.flags }
    ret := { s.ret with loss := none, marker := true } }

/-- A cold start: every block at its cold values (R184). -/
def State.coldStart (fraction : Ticks) (s : State) : State :=
  { State.reset with
    pending := s.pending, vdd := s.vdd, resetN := s.resetN, vbatGood := s.vbatGood, fselPin := s.fselPin, sdo := s.sdo
    tb := Timebase.start s.fselPin
    ret := { State.reset.ret with fraction := fraction }
    chans := s.chans.map fun c => Channel.start ChannelConfig.cold [] c.faultLine.high c.monitorHigh }

/-- The periods of the 32.768 kHz counter from the loss moment to now (R18, R185). -/
def Loss.ticks (l : Loss) (now : RunSec) (fraction : Ticks) : Nat :=
  now.since l.run * 32768 + fraction - l.fraction

/-- A count of 32.768 kHz periods in microseconds; the rounding of a part of a microsecond is a free value (R18, log 15). -/
def ticksToMicros (ticks : Nat) : Nat :=
  let us := ticks * 1000000 / 32768
  if ticks * 1000000 % 32768 ≠ 0 ∧ Config.ticksRoundUp ticks = true then us + 1 else us

/-- The reconstructed station time: the time at loss and the elapsed microseconds, leap seconds passed over (R18). -/
def Moment.later (m : Moment) (us : Nat) : UtcSecond × Nat :=
  (UtcSecond.plus ⟨m.minute, m.second⟩ ((m.phase + us) / 1000000), (m.phase + us) % 1000000)

/-- The station time a warm start reconstructs with the time at loss; none when there is none or it passes the end of 2199 (R18). -/
def State.reconstructed (s : State) : Option (UtcSecond × UtcSecond × Nat) :=
  match s.ret.loss with
  | some l =>
    match l.time with
    | some m =>
      let x := m.later (ticksToMicros (l.ticks s.ret.runSeconds s.ret.fraction))
      if x.1.minute < minutesKept then some (⟨m.minute, m.second⟩, x) else none
    | none => none
  | none => none

/-- The timebase FREE at the reconstructed time (R18). -/
def State.freeAt (u : UtcSecond) (phase : Nat) (s : State) : State :=
  { s with
    tb := { s.tb with state := .free, time := some u, elapsed := phase * s.perMicro, grade := 5 }
    ret := { s.ret with century := centuryOf u.minute } }

/-- The channel seconds after a start; a leap correction past the end of 2199 leaves the timebase UNSET with the century retained (R2, R18, log 22). -/
def State.timePlaced (century : Nat) (s : State) : State :=
  match s.tb.time with
  | none => s
  | some u =>
    if u.minute < minutesKept then s.placeChannels u
    else { s with tb := Timebase.start s.fselPin, ret := { s.ret with century := century } }

/-- A warm start (R185). -/
def State.warmStart (fraction : Ticks) (s : State) : State :=
  let t := ({ s with ret := { s.ret with fraction := fraction } }).restarted (some .warm)
  match t.reconstructed with
  | some (loss, u, phase) => (((t.freeAt u phase).discontinuity (some loss)).timePlaced t.ret.century).started
  | none => t.removeWithdrawn.started

/-- A start, its kind by the validity marker (R182). -/
def State.start (fraction : Ticks) (s : State) : State :=
  if s.ret.marker then s.warmStart fraction else s.coldStart fraction

/-! ### The supply events -/

/-- VDD_LOSS: VDD falls below its threshold, `good` the condition of VBAT then (R179, R181, log 32). -/
def vddLoss (fraction : Ticks) (good : Bool) (s : State) : State :=
  if s.vdd then
    let t := s.lossMoment fraction
    { t with vdd := false, vbatGood := good, ret := { t.ret with marker := t.ret.marker && good } }
  else s

/-- POWER_UP: VDD rises above its threshold; the start waits while RESET_N is low (R182). -/
def powerUp (fraction : Ticks) (fselHigh : Bool) (s : State) : State :=
  if s.vdd then s
  else
    let t := { s with vdd := true, fselPin := fselHigh }
    if s.resetN then t.start fraction else t

/-- RESET_N_LOW (R182). -/
def resetNLow (fraction : Ticks) (s : State) : State :=
  if s.resetN then { s.lossMoment fraction with resetN := false } else s

/-- RESET_N_RELEASE: with VDD present the start is taken (R182). -/
def resetNRelease (fraction : Ticks) (s : State) : State :=
  if s.resetN then s
  else
    let t := { s with resetN := true }
    if s.vdd then t.start fraction else t

/-- VBAT_LOW: VBAT becomes low; with VDD absent the marker is cleared (R181). -/
def vbatLow (s : State) : State :=
  { s with vbatGood := false, ret := { s.ret with marker := s.ret.marker && s.vdd } }

/-- RUN_SECOND: a whole run second has passed on the 32.768 kHz counter, which stands still while the marker is clear (R3, R181). -/
def runSecond (s : State) : State :=
  if s.ret.marker then { s with ret := { s.ret with runSeconds := s.ret.runSeconds + 1, fraction := 0 } } else s

/-- RESET PART: DONE is formed and lost in the warm start that follows at once, at the loss moment the request makes (R183). -/
def ownResetPart (fraction : Ticks) (f : List Byte) (s : State) : State :=
  match f with
  | [] => ((s.answer 0x04 .done []).lossMoment fraction).warmStart fraction
  | _ => s.refuse 0x04 .badLength

end Sys2Proof.Machine
end

