-- ==== Sys2Proof/Machine/Attention.lean ====
section
/-! DEFINITION. The Attention Unit's requests and the link's own events (11): reply reads, completions, unknown requests. -/

namespace Sys2Proof.Machine

/-- The fields of a READ STATUS reply (R201). -/
def State.statusFields (s : State) : List Byte :=
  be16 s.att.flags.toNat ++ be16 s.att.enables.toNat ++ be8 (startKindCode s.att.startKind) ++ be8 s.tb.state.code ++ be8 s.tb.grade ++
  be8 s.cal.entries.length ++ s.chans.toList.flatMap fun c => be8 c.state.code

/-- READ STATUS (R201). -/
def ownReadStatus (f : List Byte) (s : State) : State :=
  match f with
  | [] => s.answer 0x01 .done s.statusFields
  | _ => s.refuse 0x01 .badLength

/-- CLEAR ATTENTION (R199). -/
def ownClearAttention (f : List Byte) (s : State) : State :=
  match f with
  | [hi, lo] =>
    match causeMask? hi lo with
    | some m => ({ s with att := { s.att with flags := s.att.flags &&& ~~~m } }).answer 0x02 .done []
    | none => s.refuse 0x02 .badParameter
  | _ => s.refuse 0x02 .badLength

/-- SET ATTENTION ENABLES (R200). -/
def ownSetAttentionEnables (f : List Byte) (s : State) : State :=
  match f with
  | [hi, lo] =>
    match causeMask? hi lo with
    | some m => ({ s with att := { s.att with enables := m } }).answer 0x03 .done []
    | none => s.refuse 0x03 .badParameter
  | _ => s.refuse 0x03 .badLength

/-- A request period with a code that is none of the formats table's: UNKNOWN REQUEST, whatever its length, or an overrun (R190, R192). -/
def State.takeUnknown (code : Byte) (p : Period) (s : State) : State :=
  s.takeRequest code (p.fields.length + 1) (fun _ t => t.refuse code .unknownRequest) { p with extra := 0 }

/-- REPLY_READ: a period of `bytes` whole bytes whose first is 0x00; one without a whole byte is ignored, and so is one already in progress at the start (R189, R193). -/
def replyRead (bytes : Nat) (stale : Bool) (s : State) : State :=
  if bytes = 0 ∨ stale = true then s
  else
    let t := { s with sdo := s.sdoBytes bytes }
    match s.link with
    | .replyHeld _ => { t with link := .idle }
    | .idle | .working _ => t

/-- REQUEST_COMPLETION: a formed reply is held and the link becomes REPLY HELD; an ADOPT REFERENCE that waits is completed by its verdict alone (R191). -/
def requestCompletion (s : State) : State :=
  match s.link with
  | .working (.formed reply) => { s with link := .replyHeld reply }
  | .idle | .working (.adopting _) | .replyHeld _ => s

end Sys2Proof.Machine
end

