-- ==== Sys2Proof/Machine/Requests.lean ====
section
/-! DEFINITION. The meanings of the requests: the code and the total length of the formats table (11, section 12.3), and the owner. -/

namespace Sys2Proof.Machine

/-- What a command answers. -/
abbrev Answer := Host.Outcome State Fault Refusal

/-- READ STATUS (R201). -/
def execReadStatus (p : Period) (s : State) : Answer := .next (s.takeRequest 0x01 1 ownReadStatus p)

/-- CLEAR ATTENTION (R199). -/
def execClearAttention (p : Period) (s : State) : Answer := .next (s.takeRequest 0x02 3 ownClearAttention p)

/-- SET ATTENTION ENABLES (R200). -/
def execSetAttentionEnables (p : Period) (s : State) : Answer := .next (s.takeRequest 0x03 3 ownSetAttentionEnables p)

/-- RESET PART (R183). -/
def execResetPart (p : Period) (fraction : Ticks) (s : State) : Answer := .next (s.takeRequest 0x04 1 (ownResetPart fraction) p)

/-- READ TIME (R16). -/
def execReadTime (p : Period) (s : State) : Answer := .next (s.takeRequest 0x10 1 ownReadTime p)

/-- SET TIME (R15). -/
def execSetTime (p : Period) (s : State) : Answer := .next (s.takeRequest 0x11 7 ownSetTime p)

/-- ADOPT REFERENCE (R32). -/
def execAdoptReference (p : Period) (s : State) : Answer := .next (s.takeRequest 0x12 2 ownAdoptReference p)

/-- CONFIGURE REFERENCE (R20). -/
def execConfigureReference (p : Period) (s : State) : Answer := .next (s.takeRequest 0x13 5 ownConfigureReference p)

/-- READ REFERENCE (R34). -/
def execReadReference (p : Period) (s : State) : Answer := .next (s.takeRequest 0x14 2 ownReadReference p)

/-- DEFINE PROFILE (R40). -/
def execDefineProfile (p : Period) (s : State) : Answer := .next (s.takeRequest 0x20 5 ownDefineProfile p)

/-- CLEAR PROFILE (R41). -/
def execClearProfile (p : Period) (s : State) : Answer := .next (s.takeRequest 0x21 2 ownClearProfile p)

/-- READ PROFILE (R42). -/
def execReadProfile (p : Period) (s : State) : Answer := .next (s.takeRequest 0x22 2 ownReadProfile p)

/-- ENTER CHANGE (R80). -/
def execEnterChange (p : Period) (s : State) : Answer := .next (s.takeRequest 0x30 17 ownEnterChange p)

/-- AMEND CHANGE (R88). -/
def execAmendChange (p : Period) (s : State) : Answer := .next (s.takeRequest 0x31 18 ownAmendChange p)

/-- WITHDRAW CHANGE (R91). -/
def execWithdrawChange (p : Period) (s : State) : Answer := .next (s.takeRequest 0x32 3 ownWithdrawChange p)

/-- RETIRE CHANGE (R92). -/
def execRetireChange (p : Period) (s : State) : Answer := .next (s.takeRequest 0x33 3 ownRetireChange p)

/-- READ CHANGE (R94). -/
def execReadChange (p : Period) (s : State) : Answer := .next (s.takeRequest 0x34 3 ownReadChange p)

/-- FIND CHANGE (R95). -/
def execFindChange (p : Period) (s : State) : Answer := .next (s.takeRequest 0x35 9 ownFindChange p)

/-- CONFIGURE CHANNEL (R141). -/
def execConfigureChannel (p : Period) (s : State) : Answer := .next (s.takeRequest 0x40 12 ownConfigureChannel p)

/-- CARRIER ON (R144). -/
def execCarrierOn (p : Period) (s : State) : Answer := .next (s.takeRequest 0x41 2 (ownChannel 0x41 ownCarrierOn) p)

/-- GO ON AIR (R145). -/
def execGoOnAir (p : Period) (s : State) : Answer := .next (s.takeRequest 0x42 2 (ownChannel 0x42 ownGoOnAir) p)

/-- HOLD (R151). -/
def execHold (p : Period) (s : State) : Answer := .next (s.takeRequest 0x43 2 (ownChannel 0x43 ownHold) p)

/-- RESUME (R152). -/
def execResume (p : Period) (s : State) : Answer := .next (s.takeRequest 0x44 2 (ownChannel 0x44 ownResume) p)

/-- CARRIER OFF (R154). -/
def execCarrierOff (p : Period) (s : State) : Answer := .next (s.takeRequest 0x45 2 (ownChannel 0x45 ownCarrierOff) p)

/-- CLEAR FAULT (R157). -/
def execClearFault (p : Period) (s : State) : Answer := .next (s.takeRequest 0x46 2 (ownChannel 0x46 ownClearFault) p)

/-- READ CHANNEL (R166). -/
def execReadChannel (p : Period) (s : State) : Answer := .next (s.takeRequest 0x47 2 (ownChannel 0x47 ownReadChannel) p)

/-- MEASURE DELAY (R170). -/
def execMeasureDelay (p : Period) (s : State) : Answer := .next (s.takeRequest 0x48 4 ownMeasureDelay p)

/-- READ MEASUREMENT (R176). -/
def execReadMeasurement (p : Period) (s : State) : Answer := .next (s.takeRequest 0x49 2 ownReadMeasurement p)

/-- UNKNOWN_REQUEST (R190); a term whose code is known, or 0x00, is no unknown request (log 27). -/
def execUnknownRequest (code : Byte) (p : Period) (s : State) : Answer :=
  if unknownCode code then .next (s.takeUnknown code p) else .refused .notTheUnknownRequest

end Sys2Proof.Machine
end

