-- ==== Sys2Proof/Machine/Events.lean ====
section
/-! DEFINITION. The meanings of the commands that are no requests: the link's events, the part's own moments, the input lines, the supplies. -/

namespace Sys2Proof.Machine

/-! ### The link -/

/-- REPLY_READ (R193). Clock cycles beyond the last whole byte change nothing: fewer than eight make no byte (R189). -/
def execReplyRead (elapsed bytes : Nat) (_extra : Fin 8) (stale : Bool) (s : State) : Answer :=
  .next (s.whenRunning elapsed (replyRead bytes stale))

/-- REQUEST_COMPLETION (R191). -/
def execRequestCompletion (elapsed : Nat) (s : State) : Answer := .next (s.whenRunning elapsed requestCompletion)

/-! ### Moments of the part's own; each moves the clock to its own time (log 2) -/

/-- STATION_SECOND (R1). -/
def execStationSecond (s : State) : Answer := .next (s.whenRunning 0 stationSecond)

/-- CHANNEL_SECOND_START (R120). -/
def execChannelSecondStart (n : Fin 4) (s : State) : Answer := .next (s.whenRunning 0 (channelSecondStart n))

/-- HOLDOVER_BAND_REACHED (R13). -/
def execHoldoverBandReached (s : State) : Answer := .next (s.whenRunning 0 holdoverBandReached)

/-- RUN_SECOND (R3); run seconds go on while the part is stopped. -/
def execRunSecond (elapsed : Nat) (s : State) : Answer := .next (runSecond (s.whenRunning elapsed id))

/-- HISTORY_TIME_EXPIRY (R163). -/
def execHistoryTimeExpiry (n : Fin 4) (s : State) : Answer := .next (s.whenRunning 0 (historyTimeExpiry n))

/-- KEYING_TIMED_CHANGE (R119). -/
def execKeyingTimedChange (n : Fin 4) (s : State) : Answer := .next (s.whenRunning 0 (keyingTimedChange n))

/-- SAMPLE_WINDOW_CLOSE (R172). -/
def execSampleWindowClose (s : State) : Answer := .next (s.whenRunning 0 sampleWindowClose)

/-! ### Input lines -/

/-- REFERENCE_EDGE (R22). -/
def execReferenceEdge (elapsed : Nat) (r : Ref) (edge : Edge) (pulse : Nat) (s : State) : Answer :=
  .next (s.whenRunning elapsed (referenceEdge r edge pulse))

/-- NO_EDGE (R22). -/
def execNoEdge (r : Ref) (s : State) : Answer := .next (s.whenRunning 0 (noEdge r))

/-- REFERENCE_CHARACTER (R23). -/
def execReferenceCharacter (elapsed : Nat) (r : Ref) (value : Byte) (parity stop : Bool) (s : State) : Answer :=
  .next (s.whenRunning elapsed (referenceCharacter r value parity stop))

/-- LATE_MESSAGE (R24). -/
def execLateMessage (r : Ref) (s : State) : Answer := .next (s.whenRunning 0 (lateMessage r))

/-- FAULT_ACTIVE (R155, R156). -/
def execFaultActive (elapsed : Nat) (line : FaultTelling) (s : State) : Answer :=
  .next (s.whenRunning elapsed (faultActive line.channel line.stood))

/-- FAULT_INACTIVE (R155). -/
def execFaultInactive (elapsed : Nat) (line : FaultTelling) (s : State) : Answer :=
  .next (s.whenRunning elapsed (faultInactive line.channel line.stood))

/-- MONITOR_EDGE (R172); while the part is stopped the line's level alone moves. -/
def execMonitorEdge (elapsed : Nat) (n : Fin 4) (edge : Edge) (s : State) : Answer :=
  .next (if s.running then monitorEdge n edge (s.elapse elapsed) else monitorLevel n edge s)

/-! ### Supplies and the reset line -/

/-- VDD_LOSS (R179). -/
def execVddLoss (elapsed : Nat) (fraction : Ticks) (good : Bool) (s : State) : Answer :=
  .next (vddLoss fraction good (s.whenRunning elapsed id))

/-- POWER_UP (R182). -/
def execPowerUp (fraction : Ticks) (fselHigh : Bool) (s : State) : Answer := .next (powerUp fraction fselHigh s)

/-- RESET_N_LOW (R182). -/
def execResetNLow (elapsed : Nat) (fraction : Ticks) (s : State) : Answer :=
  .next (resetNLow fraction (s.whenRunning elapsed id))

/-- RESET_N_RELEASE (R182). -/
def execResetNRelease (fraction : Ticks) (s : State) : Answer := .next (resetNRelease fraction s)

/-- VBAT_LOW (R181). -/
def execVbatLow (s : State) : Answer := .next (vbatLow s)

end Sys2Proof.Machine
end

