-- ==== Sys2Proof/Machine/Dispatch.lean ====
section
/-! DEFINITION. The meaning of every command, one arm for each constructor. -/

namespace Sys2Proof.Machine

def exec (i : Instr) (s : State) : Host.Outcome State Fault Refusal :=
  match i with
  | .readStatus p => Sys2Proof.Machine.execReadStatus p s
  | .clearAttention p => Sys2Proof.Machine.execClearAttention p s
  | .setAttentionEnables p => Sys2Proof.Machine.execSetAttentionEnables p s
  | .resetPart p fraction => Sys2Proof.Machine.execResetPart p fraction s
  | .readTime p => Sys2Proof.Machine.execReadTime p s
  | .setTime p => Sys2Proof.Machine.execSetTime p s
  | .adoptReference p => Sys2Proof.Machine.execAdoptReference p s
  | .configureReference p => Sys2Proof.Machine.execConfigureReference p s
  | .readReference p => Sys2Proof.Machine.execReadReference p s
  | .defineProfile p => Sys2Proof.Machine.execDefineProfile p s
  | .clearProfile p => Sys2Proof.Machine.execClearProfile p s
  | .readProfile p => Sys2Proof.Machine.execReadProfile p s
  | .enterChange p => Sys2Proof.Machine.execEnterChange p s
  | .amendChange p => Sys2Proof.Machine.execAmendChange p s
  | .withdrawChange p => Sys2Proof.Machine.execWithdrawChange p s
  | .retireChange p => Sys2Proof.Machine.execRetireChange p s
  | .readChange p => Sys2Proof.Machine.execReadChange p s
  | .findChange p => Sys2Proof.Machine.execFindChange p s
  | .configureChannel p => Sys2Proof.Machine.execConfigureChannel p s
  | .carrierOn p => Sys2Proof.Machine.execCarrierOn p s
  | .goOnAir p => Sys2Proof.Machine.execGoOnAir p s
  | .hold p => Sys2Proof.Machine.execHold p s
  | .resume p => Sys2Proof.Machine.execResume p s
  | .carrierOff p => Sys2Proof.Machine.execCarrierOff p s
  | .clearFault p => Sys2Proof.Machine.execClearFault p s
  | .readChannel p => Sys2Proof.Machine.execReadChannel p s
  | .measureDelay p => Sys2Proof.Machine.execMeasureDelay p s
  | .readMeasurement p => Sys2Proof.Machine.execReadMeasurement p s
  | .unknownRequest code p => Sys2Proof.Machine.execUnknownRequest code p s
  | .replyRead elapsed bytes extra stale => Sys2Proof.Machine.execReplyRead elapsed bytes extra stale s
  | .requestCompletion elapsed => Sys2Proof.Machine.execRequestCompletion elapsed s
  | .stationSecond => Sys2Proof.Machine.execStationSecond s
  | .channelSecondStart n => Sys2Proof.Machine.execChannelSecondStart n s
  | .holdoverBandReached => Sys2Proof.Machine.execHoldoverBandReached s
  | .runSecond elapsed => Sys2Proof.Machine.execRunSecond elapsed s
  | .historyTimeExpiry n => Sys2Proof.Machine.execHistoryTimeExpiry n s
  | .referenceEdge elapsed r edge pulse => Sys2Proof.Machine.execReferenceEdge elapsed r edge pulse s
  | .noEdge r => Sys2Proof.Machine.execNoEdge r s
  | .referenceCharacter elapsed r value parity stop => Sys2Proof.Machine.execReferenceCharacter elapsed r value parity stop s
  | .lateMessage r => Sys2Proof.Machine.execLateMessage r s
  | .faultActive elapsed line => Sys2Proof.Machine.execFaultActive elapsed line s
  | .faultInactive elapsed line => Sys2Proof.Machine.execFaultInactive elapsed line s
  | .sampleWindowClose => Sys2Proof.Machine.execSampleWindowClose s
  | .vddLoss elapsed fraction vbatGood => Sys2Proof.Machine.execVddLoss elapsed fraction vbatGood s
  | .powerUp fraction fselHigh => Sys2Proof.Machine.execPowerUp fraction fselHigh s
  | .resetNLow elapsed fraction => Sys2Proof.Machine.execResetNLow elapsed fraction s
  | .resetNRelease fraction => Sys2Proof.Machine.execResetNRelease fraction s
  | .vbatLow => Sys2Proof.Machine.execVbatLow s
  | .keyingTimedChange n => Sys2Proof.Machine.execKeyingTimedChange n s
  | .monitorEdge elapsed n edge => Sys2Proof.Machine.execMonitorEdge elapsed n edge s

end Sys2Proof.Machine
end

