-- ==== Sys2Proof/Safety.lean ====
section
/-! DEFINITION. The words the statements use: a select period without fault, a part that takes requests, a held frame of state, and what a sound state is.
The manual names nothing that stops the part, so a safe run is one whose states stay sound. -/

namespace Sys2Proof

/-- A select period of whole bytes, begun after the last start: `d` FIN periods after the command before, `f` after the code byte. -/
def Period.of (d : Nat) (f : List Byte) : Period := { elapsed := d, fields := f, extra := 0, stale := false }

/-- The code and the period of a command that is a request. -/
def Instr.request? : Instr → Option (Byte × Period)
  | .readStatus p => some (0x01, p)
  | .clearAttention p => some (0x02, p)
  | .setAttentionEnables p => some (0x03, p)
  | .resetPart p _ => some (0x04, p)
  | .readTime p => some (0x10, p)
  | .setTime p => some (0x11, p)
  | .adoptReference p => some (0x12, p)
  | .configureReference p => some (0x13, p)
  | .readReference p => some (0x14, p)
  | .defineProfile p => some (0x20, p)
  | .clearProfile p => some (0x21, p)
  | .readProfile p => some (0x22, p)
  | .enterChange p => some (0x30, p)
  | .amendChange p => some (0x31, p)
  | .withdrawChange p => some (0x32, p)
  | .retireChange p => some (0x33, p)
  | .readChange p => some (0x34, p)
  | .findChange p => some (0x35, p)
  | .configureChannel p => some (0x40, p)
  | .carrierOn p => some (0x41, p)
  | .goOnAir p => some (0x42, p)
  | .hold p => some (0x43, p)
  | .resume p => some (0x44, p)
  | .carrierOff p => some (0x45, p)
  | .clearFault p => some (0x46, p)
  | .readChannel p => some (0x47, p)
  | .measureDelay p => some (0x48, p)
  | .readMeasurement p => some (0x49, p)
  | .unknownRequest code p => some (code, p)
  | .replyRead _ _ _ _ | .requestCompletion _ | .stationSecond | .channelSecondStart _ | .holdoverBandReached | .runSecond _
  | .historyTimeExpiry _ | .referenceEdge _ _ _ _ | .noEdge _ | .referenceCharacter _ _ _ _ _ | .lateMessage _ | .faultActive _ _
  | .faultInactive _ _ | .sampleWindowClose | .vddLoss _ _ _ | .powerUp _ _ | .resetNLow _ _ | .resetNRelease _ | .vbatLow
  | .keyingTimedChange _ | .monitorEdge _ _ _ => none

/-- The total length of a known code, the code byte counted (11, section 12.3). -/
def totalLength (code : Byte) : Nat :=
  if code = 0x02 ∨ code = 0x03 ∨ code = 0x32 ∨ code = 0x33 ∨ code = 0x34 then 3
  else if code = 0x01 ∨ code = 0x04 ∨ code = 0x10 then 1
  else if code = 0x11 then 7
  else if code = 0x13 ∨ code = 0x20 then 5
  else if code = 0x30 then 17
  else if code = 0x31 then 18
  else if code = 0x35 then 9
  else if code = 0x40 then 12
  else if code = 0x48 then 4
  else 2

namespace Machine

/-- The part runs and its link is not WORKING: a request period that ends now is taken. -/
abbrev State.listens (s : State) : Prop :=
  s.running = true ∧ (match s.link with | .working _ => false | .idle | .replyHeld _ => true) = true

/-- The state at the end of a select period: its time has gone by, and SDO has given the held reply or the no-reply header. -/
def State.handed (p : Period) (s : State) : State :=
  { s.elapse p.elapsed with sdo := s.sdoBytes (p.fields.length + 1) }

/-! ### Sound states -/

/-- The calendar is sound (R56, R58, R61): at most 32 entries, in calendar order, idents all different and from 1 to 65,535; the ring holds exactly the idents
of the ANNOUNCING and COMMITTED entries, each once; the next ident lies from 1 to 65,535. -/
abbrev Calendar.sound (c : Calendar) : Prop :=
  c.entries.length ≤ 32 ∧ c.entries.Pairwise (fun e f => e.precedes f = true) ∧ (c.entries.map Entry.ident).Nodup ∧
  (∀ e ∈ c.entries, 1 ≤ e.ident ∧ e.ident ≤ 65535) ∧ c.ring.Nodup ∧
  (∀ i ∈ c.ring, ∃ e ∈ c.entries, e.ident = i ∧ e.state.inRing = true) ∧
  (∀ e ∈ c.entries, e.state.inRing = true → e.ident ∈ c.ring) ∧ 1 ≤ c.nextIdent ∧ c.nextIdent ≤ 65535

/-- An entry's marks fit its state (R54, R55): only a SCHEDULED entry can be unlocked; an outcome is held in DONE and nowhere else; only an INTERRUPTION is IN EFFECT. -/
abbrev Entry.marksFit (e : Entry) : Prop :=
  (e.locked = false → e.state = .scheduled) ∧ (e.outcome.isSome = true ↔ e.state = .done) ∧
  (e.state = .inEffect → e.kind = .interruption)

/-- Every entry's marks fit its state. -/
abbrev Calendar.marksFit (c : Calendar) : Prop := ∀ e ∈ c.entries, e.marksFit

/-- The timebase is sound (R1, R3 to R5, R9, R13): UNSET exactly without station time, grade 6 exactly in UNSET; the window holds at most 64 corrections of at most 50
microseconds either way; the remainders carried are at most half a FIN period of the slower strap. -/
abbrev Timebase.sound (b : Timebase) : Prop :=
  (b.state = .unset ↔ b.time = none) ∧ (b.grade = 6 ↔ b.state = .unset) ∧ b.window.length ≤ 64 ∧ (∀ c ∈ b.window, -50 ≤ c ∧ c ≤ 50) ∧
  -100 ≤ b.carried ∧ b.carried ≤ 100 ∧ -100 ≤ b.remainder ∧ b.remainder ≤ 100

/-- The two priorities are 1 and 2, one each (R19). -/
abbrev Monitor.sound (m : Monitor) : Prop :=
  (m.a.priority = 1 ∧ m.b.priority = 2) ∨ (m.a.priority = 2 ∧ m.b.priority = 1)

/-- The configuration's fields lie in their values, the doubt level at most the silence level (R140, R141). -/
abbrev ChannelConfig.legal (c : ChannelConfig) : Prop :=
  c.identity ≤ 15 ∧ 1 ≤ c.dwell ∧ c.dwell ≤ 15 ∧ 1 ≤ c.doubt ∧ c.doubt ≤ c.silence ∧ c.silence ≤ 6 ∧ c.drive ≤ 50000

/-- A channel's bounded fields lie in their bounds (R103, R136, R140, R163). -/
abbrev Channel.bounded (c : Channel) : Prop :=
  c.cfg.legal ∧ c.inForce ≤ 50000 ∧ (∀ a ∈ c.pendingAdvance, a ≤ 50000) ∧ c.history.length ≤ 4 ∧ c.arbiter.stack.length ≤ 4

/-- The fields that belong to HELD and to RESUMING are present there and nowhere else (R140). -/
abbrev Channel.fieldsFit (c : Channel) : Prop :=
  (c.heldSince.isSome = true ↔ c.state = .held .host ∨ c.state = .held .calendar) ∧
  (c.heldBy.isSome = true → c.state = .held .calendar) ∧ (c.resumeDeferred = true → c.state = .held .calendar) ∧
  (c.resumeStart.isSome = true ↔ c.state = .resuming)

/-- CHn_KEY is asserted, or has changes still to come, in ON AIR and in CARRIER alone (R142), and never while the part is stopped (R179). -/
abbrev State.keyingSafe (s : State) : Prop :=
  ∀ n : Fin 4, ((s.chan n).key = true ∨ (s.chan n).keyPlan ≠ []) →
    s.running = true ∧ ((s.chan n).state = .onAir ∨ (s.chan n).state = .carrier)

/-- Every entry stands as its times give it at the second `now` (R72 to R75). -/
abbrev Entry.placedAt (now : UtcSecond) (e : Entry) : Prop :=
  e.state = .done ∨ (e.state = .inEffect ∧ e.instant ≤ now.minute ∧ now.minute < e.outageEnd) ∨
  (now.minute < e.instant ∧ e.state = e.stateAt now.minute)

end Machine

end Sys2Proof
end

