-- ==== Sys2Proof/Certificates/Slice0/Obligations.lean ====
section
/-! DEFINITION. The statements for the provers. `Period.of d f` is a select period of whole bytes `f` after the code, `d` FIN periods after the command before;
`s.listens` says that the part runs and its link is not WORKING; `s.handed p` is `s` at the end of the period `p`. -/

open Sys2Proof Sys2Proof.Machine

/-! ### The queue and the link -/

/-- A step takes the command at the front of the queue and runs it on the state with the queue's rest; on an empty queue the part idles (the model's choice, log 1). -/
def Obligations.StepRunsTheFrontCommand : Prop :=
  (∀ (c : Instr) (rest : List Instr) (s : State), s.pending = c :: rest → step s = exec c { s with pending := rest }) ∧
  (∀ s : State, s.pending = [] → step s = .next s)

/-- Every well-formed command answers a next state with the queue as it was; an ill-formed one is refused by name (log 27). -/
def Obligations.EveryCommandCompletes : Prop :=
  ∀ (c : Instr) (s : State),
    (c.wellFormed = true → ∃ t, exec c s = .next t ∧ t.pending = s.pending) ∧
    (c.wellFormed = false → exec c s = .refused .notTheUnknownRequest)

/-- While the part is stopped, every command but the supply events, the run second and the level of a monitor line changes nothing (R179). -/
def Obligations.StoppedPartTakesNothing : Prop :=
  ∀ (c : Instr) (s : State), c.wellFormed = true → s.running = false →
    (match c with
      | .vddLoss _ _ _ | .powerUp _ _ | .resetNLow _ _ | .resetNRelease _ | .vbatLow | .runSecond _ | .monitorEdge _ _ _ => False
      | _ => True) →
    exec c s = .next s

/-- A request period that ends in WORKING is dropped: time goes by, SDO gives the no-reply header, LINK OVERRUN is raised, and the link stays WORKING with its
first request, whose completion then holds its reply. With the completion taken first, the new request is taken and the reply just held is discarded (R192). -/
def Obligations.OverrunDropsTheRequest : Prop :=
  ∀ (c : Instr) (code : Byte) (p : Period) (s : State), c.wellFormed = true → c.request? = some (code, p) →
    s.running = true → p.stale = false →
    (∀ w, s.link = .working w →
      exec c s = .next { s.elapse p.elapsed with
        sdo := ([0x00, 0xFF] : List Byte).take (p.fields.length + 1) ++ List.replicate (p.fields.length + 1 - 2) 0x00
        att := { s.att with flags := s.att.flags ||| 0x0800 } }) ∧
    (∀ reply, s.link = .working (.formed reply) →
      ∃ t, exec (.requestCompletion 0) s = .next t ∧ t.link = .replyHeld reply ∧
        ∃ u, exec c t = .next u ∧ ∀ r, u.link ≠ .replyHeld r)

/-- The tests of a request period in IDLE or REPLY HELD (R190): an unknown code gives UNKNOWN REQUEST whatever the length; a known code with a wrong number of
whole bytes, or with SCLK cycles beyond the last whole byte, gives BAD LENGTH; nothing but the link changes. A period already in progress at the last start changes nothing (R189).
The first byte on SDI decides what a period is: 0x00 a reply read, and every other value the request of that code with the bytes after it as its fields (R189; the operands are the model's, log 26). -/
def Obligations.RequestPeriodTests : Prop :=
  (∀ (code : Byte) (p : Period) (s : State), unknownCode code = true → s.listens → p.stale = false →
    exec (.unknownRequest code p) s =
      .next { s.elapse p.elapsed with sdo := s.sdoBytes (p.fields.length + 1), link := .working (.formed [code, 0x01]) }) ∧
  (∀ (c : Instr) (code : Byte) (p : Period) (s : State), c.request? = some (code, p) → unknownCode code = false → code ≠ 0 →
    c.wellFormed = true → s.listens → p.stale = false → (p.fields.length + 1 ≠ totalLength code ∨ p.extra ≠ 0) →
    exec c s =
      .next { s.elapse p.elapsed with sdo := s.sdoBytes (p.fields.length + 1), link := .working (.formed [code, 0x02]) }) ∧
  (∀ (c : Instr) (code : Byte) (p : Period) (s : State), c.request? = some (code, p) → c.wellFormed = true → s.running = true →
    p.stale = true → exec c s = .next (s.elapse p.elapsed)) ∧
  (∀ (c : Instr) (code : Byte) (p : Period) (fraction : Ticks), c.request? = some (code, p) → c.wellFormed = true →
    (∀ q, c = .resetPart p q → q = fraction) → selectPeriod fraction p.elapsed (code :: p.fields) p.extra p.stale = c) ∧
  (∀ (fraction : Ticks) (d : Nat) (bytes : List Byte) (x : Fin 8) (stale : Bool),
    selectPeriod fraction d (0x00 :: bytes) x stale = .replyRead d (bytes.length + 1) x stale)

/-- A reply read of `n` whole bytes shifts out the held reply, or the no-reply header in IDLE and WORKING, and 0x00 after its last byte; it clears a held
reply however few bytes were read, and otherwise changes nothing. A period of no whole byte changes nothing, and so does one already in progress at the last start.
A completion holds the reply formed; an ADOPT REFERENCE that waits is completed by its verdict alone (R189, R191, R193). -/
def Obligations.RepliesAreReadAndHeld : Prop :=
  (∀ (d n : Nat) (x : Fin 8) (s : State), s.running = true → 1 ≤ n →
    (∀ reply, s.link = .replyHeld reply →
      exec (.replyRead d n x false) s =
        .next { s.elapse d with sdo := reply.take n ++ List.replicate (n - reply.length) 0x00, link := .idle }) ∧
    ((∀ reply, s.link ≠ .replyHeld reply) →
      exec (.replyRead d n x false) s =
        .next { s.elapse d with sdo := ([0x00, 0xFF] : List Byte).take n ++ List.replicate (n - 2) 0x00 })) ∧
  (∀ (d n : Nat) (x : Fin 8) (stale : Bool) (s : State), s.running = true → n = 0 ∨ stale = true →
    exec (.replyRead d n x stale) s = .next (s.elapse d)) ∧
  (∀ (d : Nat) (s : State), s.running = true →
    (∀ reply, s.link = .working (.formed reply) →
      exec (.requestCompletion d) s = .next { s.elapse d with link := .replyHeld reply }) ∧
    (∀ r, s.link = .working (.adopting r) → exec (.requestCompletion d) s = .next (s.elapse d)))

/-! ### Attention -/

/-- READ STATUS replies DONE with the flags, the enables, the start kind, the timebase state, the grade, the calendar count and the four channel states, and
changes nothing but the link (R201). -/
def Obligations.ReadStatusReports : Prop :=
  ∀ (d : Nat) (s : State), s.listens →
    exec (.readStatus (.of d [])) s =
      .next { s.handed (.of d []) with
        link := .working (.formed ([0x01, 0x00] ++ be16 s.att.flags.toNat ++ be16 s.att.enables.toNat ++
          be8 (startKindCode s.att.startKind) ++ be8 s.tb.state.code ++ be8 s.tb.grade ++ be8 s.cal.entries.length ++
          be8 (s.chan 0).state.code ++ be8 (s.chan 1).state.code ++ be8 (s.chan 2).state.code ++ be8 (s.chan 3).state.code)) }

/-- CLEAR ATTENTION is refused BAD PARAMETER for a weight above 0x1000. Otherwise it clears exactly the flags of its mask, keeps the start kind, and replies DONE;
a cause raised before it is cleared with the rest, and one raised after it is set again and pulls ATTN_N low if it is enabled (R199). -/
def Obligations.ClearAttentionClearsItsMask : Prop :=
  ∀ (d : Nat) (hi lo : Byte) (s : State), s.listens →
    (0x2000 ≤ word16 hi lo →
      exec (.clearAttention (.of d [hi, lo])) s =
        .next { s.handed (.of d [hi, lo]) with link := .working (.formed [0x02, 0x03]) }) ∧
    (word16 hi lo < 0x2000 → ∃ t,
      exec (.clearAttention (.of d [hi, lo])) s = .next t ∧
      t = { s.handed (.of d [hi, lo]) with
        att := { s.att with flags := t.att.flags }, link := .working (.formed [0x02, 0x00]) } ∧
      (∀ k : Fin 13, t.att.flags.getLsbD k = (s.att.flags.getLsbD k && !(word16 hi lo).testBit k)) ∧
      (∀ c : Cause, (t.raise c).flagged c = true ∧ (s.att.enables &&& c.weight ≠ 0 → (t.raise c).attnN = false)))

/-- SET ATTENTION ENABLES is refused BAD PARAMETER for a weight above 0x1000. Otherwise its mask replaces the enables, the flags stay, ATTN_N follows at once, and the reply
is DONE. The enables are lost at a loss moment and all set again at every start (R200). -/
def Obligations.SetEnablesReplacesThem : Prop :=
  (∀ (d : Nat) (hi lo : Byte) (s : State), s.listens →
    (0x2000 ≤ word16 hi lo →
      exec (.setAttentionEnables (.of d [hi, lo])) s =
        .next { s.handed (.of d [hi, lo]) with link := .working (.formed [0x03, 0x03]) }) ∧
    (word16 hi lo < 0x2000 → ∃ t,
      exec (.setAttentionEnables (.of d [hi, lo])) s = .next t ∧
      t = { s.handed (.of d [hi, lo]) with
        att := { s.att with enables := BitVec.ofNat 13 (word16 hi lo) }, link := .working (.formed [0x03, 0x00]) } ∧
      t.attnN = decide (s.att.flags &&& BitVec.ofNat 13 (word16 hi lo) = 0))) ∧
  (∀ (d : Nat) (q : Ticks) (good : Bool) (s : State), s.running = true →
    (∃ t, exec (.vddLoss d q good) s = .next t ∧ t.att.enables = 0) ∧ (∃ t, exec (.resetNLow d q) s = .next t ∧ t.att.enables = 0)) ∧
  (∀ (q : Ticks) (high : Bool) (s : State), s.vdd = false → s.resetN = true →
    ∃ t, exec (.powerUp q high) s = .next t ∧ t.att.enables = 0x1FFF) ∧
  (∀ (q : Ticks) (s : State), s.vdd = true → s.resetN = false →
    ∃ t, exec (.resetNRelease q) s = .next t ∧ t.att.enables = 0x1FFF) ∧
  (∀ (d : Nat) (q : Ticks) (s : State), s.listens →
    ∃ t, exec (.resetPart (.of d []) q) s = .next t ∧ t.att.enables = 0x1FFF)

/-- ATTN_N is low exactly while the part runs and some cause has both its flag and its enable set; it is high from a loss moment on, and low from the moment a start is taken (R198). -/
def Obligations.AttnNLine : Prop :=
  (∀ s : State, s.running = true →
    (s.attnN = false ↔ ∃ c : Cause, s.att.flags &&& c.weight ≠ 0 ∧ s.att.enables &&& c.weight ≠ 0)) ∧
  (∀ s : State, s.running = false → s.attnN = true) ∧
  (∀ (d : Nat) (q : Ticks) (good : Bool) (s : State), s.running = true →
    (∃ t, exec (.vddLoss d q good) s = .next t ∧ t.attnN = true) ∧ (∃ t, exec (.resetNLow d q) s = .next t ∧ t.attnN = true)) ∧
  (∀ (q : Ticks) (high : Bool) (s : State), s.vdd = false → s.resetN = true →
    ∃ t, exec (.powerUp q high) s = .next t ∧ t.attnN = false) ∧
  (∀ (q : Ticks) (s : State), s.vdd = true → s.resetN = false →
    ∃ t, exec (.resetNRelease q) s = .next t ∧ t.attnN = false) ∧
  (∀ (d : Nat) (q : Ticks) (s : State), s.listens →
    ∃ t, exec (.resetPart (.of d []) q) s = .next t ∧ t.attnN = false)

/-! ### The timebase -/

/-- SET TIME (R15): its three refusals in their order; otherwise the second given begins at once, the phase error is 0, the holdover start is cleared, and the century
follows the year. With no candidate reference the timebase is FREE with grade 5. A QUIET channel stays QUIET and loses its staged frame, its claim and its decision; where the given second is 50, what it holds then was decided anew at this composition instant (R150). -/
def Obligations.SetTimePlacesTheSecond : Prop :=
  ∀ (d : Nat) (y mo da h mi sec : Byte) (s : State), s.listens →
    let p := Period.of d [y, mo, da, h, mi, sec]
    let valid := y.toNat ≤ 199 ∧ 1 ≤ mo.toNat ∧ mo.toNat ≤ 12 ∧ 1 ≤ da.toNat ∧
      da.toNat ≤ monthLength (2000 + y.toNat) mo.toNat ∧ h.toNat ≤ 23 ∧ mi.toNat ≤ 59 ∧ sec.toNat ≤ 59
    let held := ∃ n : Fin 4, (s.chan n).state = .onAir ∨ (s.chan n).state = .cued ∨ (s.chan n).state = .resuming
    let minute := minuteOf (2000 + y.toNat) mo.toNat da.toNat h.toNat mi.toNat
    (¬valid → exec (.setTime p) s = .next { s.handed p with link := .working (.formed [0x11, 0x03]) }) ∧
    (valid → s.tb.state = .locked → exec (.setTime p) s = .next { s.handed p with link := .working (.formed [0x11, 0x0D]) }) ∧
    (valid → s.tb.state ≠ .locked → held →
      exec (.setTime p) s = .next { s.handed p with link := .working (.formed [0x11, 0x0E]) }) ∧
    (valid → s.tb.state ≠ .locked → ¬held → ∃ t, exec (.setTime p) s = .next t ∧
      t.tb.time = some ⟨minute, sec.toNat⟩ ∧ t.tb.elapsed = 0 ∧ t.tb.phaseError = 0 ∧ t.tb.holdoverStart = none ∧
      t.ret = { s.ret with century := centuryOf minute } ∧ t.link = .working (.formed [0x11, 0x00]) ∧
      t.pending = s.pending ∧ t.fin = s.fin + d ∧
      (s.mon.a.candidate = false → s.mon.b.candidate = false → t.tb.state = .free ∧ t.tb.grade = 5) ∧
      (∀ n : Fin 4, (s.chan n).state = .quiet →
        (t.chan n).state = .quiet ∧ (t.chan n).holdPending = false ∧ (t.chan n).claimCancelled = false ∧
        (sec.toNat ≠ 50 → (t.chan n).staged = none ∧ (t.chan n).claim = none ∧ (t.chan n).quietDecided = false) ∧
        (∀ f, (t.chan n).staged = some f → f.occupied = minute + 1 ∧ (t.chan n).claim = none ∧ (t.chan n).quietDecided = false) ∧
        (∀ id, (t.chan n).claim = some id → (t.chan n).quietDecided = false)))

/-- READ TIME returns station time with its weekday, the timebase state, the grade, the grade-changed flag, the phase error, the holdover duration and the century, and
clears the flag; in UNSET the time fields are 0 (R16). -/
def Obligations.ReadTimeReports : Prop :=
  ∀ (d : Nat) (s : State), s.listens →
    let p := Period.of d []
    let time : List Byte := match s.tb.time with
      | some u =>
        be16 (civilOf (u.minute : Int)).year ++ be8 (civilOf (u.minute : Int)).month ++ be8 (civilOf (u.minute : Int)).day ++
        be8 (civilOf (u.minute : Int)).hour ++ be8 (civilOf (u.minute : Int)).minute ++ be8 u.second ++
        be24 (s.handed p).phase ++ be8 (civilOf (u.minute : Int)).weekday
      | none => [0, 0, 0, 0, 0, 0, 0, 0, 0, 0, 0]
    let duration : Nat := match s.tb.state, s.tb.holdoverStart with
      | .holdover, some t0 => (s.ret.runSeconds - t0).toNat
      | _, _ => 0
    exec (.readTime p) s =
      .next { s.handed p with
        tb := { (s.handed p).tb with gradeChanged := false }
        link := .working (.formed ([0x10, 0x00] ++ time ++ be8 s.tb.state.code ++ be8 s.tb.grade ++ beBool s.tb.gradeChanged ++
          be32s s.tb.phaseError ++ be32 duration ++ be8 s.ret.century)) }

/-- STATION_SECOND: the second that follows is labelled one second later; second 58 or 59 of a month's last minute asks the calendar, a COMMITTED LEAP entry of the right kind for the coming boundary deletes second 59 or inserts second 60, and the yes sets its leap
executed mark (R1, R11, R12, R67). A second 0 then runs the calendar's boundary pass (R64). Past 2199 the timebase is UNSET with grade 6 and phase error 0. The second evaluation brings the candidate runs up to date and selects by the table of R29; a change of selection raises
REFERENCE CHANGED; the timebase leaves LOCKED for HOLDOVER when none is selected, with the holdover start now and phase error 0, and is LOCKED when one is (R5). That the
command moves the clock to the end of the second is the model's choice (log 2), and that the grade at a selection from none is derived there and then from the held phase error (R13) is its reading (log 40). -/
def Obligations.StationSecondLabels : Prop :=
  ∀ (u : UtcSecond) (s : State), s.running = true → s.tb.time = some u →
    let leap := fun k : Kind => ∃ e ∈ s.cal.entries, e.kind = k ∧ e.state = .committed ∧ e.instant = u.minute + 1
    let asked := fun e : Entry => endsMonth u.minute = true ∧ e.state = .committed ∧ e.instant = u.minute + 1 ∧
      ((u.second = 58 ∧ e.kind = .leapDelete) ∨ (u.second = 59 ∧ e.kind = .leapInsert))
    let marked : State := { s with cal := { s.cal with
      entries := s.cal.entries.map fun e => if asked e then { e with leapExecuted := true } else e } }
    let candidate := fun r : Ref => (s.ref r).state = .qualified ∧ (s.ref r).agreement = true
    let run := fun r : Ref => if candidate r then min 65535 ((s.ref r).candidateRun + 1) else 0
    ∃ v t, exec .stationSecond s = .next t ∧ t.pending = s.pending ∧ t.fin = s.fin + (s.tb.length - s.tb.elapsed) ∧
      (u.second < 58 → v = ⟨u.minute, u.second + 1⟩) ∧
      (u.second = 58 → endsMonth u.minute = true → leap .leapDelete → v = ⟨u.minute + 1, 0⟩) ∧
      (u.second = 58 → ¬(endsMonth u.minute = true ∧ leap .leapDelete) → v = ⟨u.minute, 59⟩) ∧
      (u.second = 59 → endsMonth u.minute = true → leap .leapInsert → v = ⟨u.minute, 60⟩) ∧
      (u.second = 59 → ¬(endsMonth u.minute = true ∧ leap .leapInsert) → v = ⟨u.minute + 1, 0⟩) ∧
      (60 ≤ u.second → v = ⟨u.minute + 1, 0⟩) ∧
      (v.minute < minutesKept → t.tb.time = some v ∧ t.tb.elapsed = 0 ∧ t.ret = { s.ret with century := centuryOf v.minute } ∧
        (v.second ≠ 0 → t.cal = marked.cal ∧ t.profiles = s.profiles) ∧
        (v.second = 0 → t.cal = (marked.boundaryPass v.minute).cal ∧ t.profiles = (marked.boundaryPass v.minute).profiles)) ∧
      (minutesKept ≤ v.minute →
        t.tb.time = none ∧ t.tb.state = .unset ∧ t.tb.grade = 6 ∧ t.tb.phaseError = 0 ∧ t.ret = s.ret) ∧
      (v.minute < minutesKept → s.mon.sound →
        (∀ r, (t.ref r).candidateRun = run r ∧
          t.ref r = { s.ref r with candidateRun := (t.ref r).candidateRun, leapMismatch := (t.ref r).leapMismatch }) ∧
        (s.mon.selection = none → ¬candidate .a → ¬candidate .b → t.mon.selection = none) ∧
        (∀ r, s.mon.selection = none → candidate r → (s.ref r).priority = 1 ∨ ¬candidate (otherRef r) → t.mon.selection = some r) ∧
        (∀ r, s.mon.selection = some r → candidate r →
          t.mon.selection =
            some (if s.mon.revertive = true ∧ (s.ref r).priority = 2 ∧ 60 ≤ run (otherRef r) then otherRef r else r)) ∧
        (∀ r, s.mon.selection = some r → ¬candidate r →
          t.mon.selection = (if candidate (otherRef r) then some (otherRef r) else none)) ∧
        (t.mon.selection = s.mon.selection →
          t.att.flags.getLsbD 8 = s.att.flags.getLsbD 8 ∧ t.mon.firstEdge = s.mon.firstEdge ∧
          ∀ r, (t.ref r).leapMismatch = (s.ref r).leapMismatch) ∧
        (t.mon.selection ≠ s.mon.selection →
          t.att.flags.getLsbD 8 = true ∧ t.mon.firstEdge = s.mon.selection.isNone ∧
          ∀ r, s.mon.selection = some r ∨ t.mon.selection = some r → (t.ref r).leapMismatch = false) ∧
        (t.mon.selection = none → s.tb.state = .locked →
          t.tb.state = .holdover ∧ t.tb.holdoverStart = some s.ret.runSeconds ∧ t.tb.phaseError = 0 ∧ t.tb.grade = 2) ∧
        (t.mon.selection ≠ none → s.tb.state ≠ .locked →
          t.tb.state = .locked ∧ t.tb.holdoverStart = none ∧ t.tb.phaseError = s.tb.phaseError ∧
          t.tb.grade = (if s.tb.phaseError.natAbs ≤ 10 then 0 else 1)) ∧
        ((t.mon.selection = none ↔ s.tb.state ≠ .locked) →
          t.tb.state = s.tb.state ∧ t.tb.holdoverStart = s.tb.holdoverStart ∧ t.tb.phaseError = s.tb.phaseError ∧ t.tb.grade = s.tb.grade))

/-- The length of the second that begins (R1, R7, R9, R10): the correction, with the remainder carried, resolved to the nearest FIN period, a half to the larger. In LOCKED after a measurement below 0 it is the error limited to 50 microseconds, which enters the window of 64.
In FREE and HOLDOVER, and in LOCKED without such a measurement, it is the estimate and nothing is entered. That a measurement of 0 or more corrects the second in progress is the model's reading (log 28; GoodEdgesMeasureOrAdopt). -/
def Obligations.StationSecondLength : Prop :=
  ∀ (u : UtcSecond) (s : State), s.running = true → s.tb.time = some u → (s.secondAfter u).minute < minutesKept → s.tb.sound →
    let period : Int := if s.tb.fselHigh then 100 else 200
    let nominal : Int := if s.tb.fselHigh then 10000000 else 5000000
    let resolved := fun (correction : Int) (t : State) => ∃ n : Int, (t.tb.length : Int) = nominal + n ∧
      t.tb.remainder = correction + s.tb.remainder - n * period ∧ -period ≤ 2 * t.tb.remainder ∧ 2 * t.tb.remainder < period
    ∃ t, exec .stationSecond s = .next t ∧ t.tb.carried = s.tb.remainder ∧ t.tb.measured = none ∧
      (t.tb.state ≠ .locked ∨ s.tb.measured = none →
        t.tb.slewed = false ∧ t.tb.window = s.tb.window ∧
        resolved (if s.tb.window = [] then 0 else (s.tb.window.sum * 1000).tdiv s.tb.window.length) t) ∧
      (∀ e, t.tb.state = .locked → s.tb.measured = some e →
        t.tb.slewed = true ∧ t.tb.window = (s.tb.window ++ [max (-50) (min 50 e)]).drop (s.tb.window.length + 1 - 64) ∧
        resolved (max (-50) (min 50 e) * 1000) t)

/-- HOLDOVER_BAND_REACHED: in HOLDOVER the grade is that of the duration's band; a new value sets the grade-changed flag and raises GRADE CHANGED, the same value changes
nothing (R13, R14). RUN_SECOND adds one run second, whether the part runs or is stopped, while the validity marker is set; with the marker clear the count stands still (R3, R181).
The count goes round at 2^32 (the model's choice, log 7), and that RUN_SECOND derives no grade and expires no history time of itself is the model's reading (log 34). -/
def Obligations.RunSecondsAndHoldoverBands : Prop :=
  (∀ (t0 : RunSec) (s : State), s.running = true → s.tb.state = .holdover → s.tb.holdoverStart = some t0 →
    let duration := (s.ret.runSeconds - t0).toNat
    let g := if duration ≤ 3600 then 2 else if duration ≤ 28800 then 3 else if duration ≤ 86400 then 4 else 5
    exec .holdoverBandReached s = .next
      (if s.tb.grade = g then s
       else { s with tb := { s.tb with grade := g, gradeChanged := true }, att := { s.att with flags := s.att.flags ||| 0x0080 } })) ∧
  (∀ (d : Nat) (s : State),
    (s.ret.marker = true → s.running = true →
      exec (.runSecond d) s = .next { s.elapse d with ret := { s.ret with runSeconds := s.ret.runSeconds + 1, fraction := 0 } }) ∧
    (s.ret.marker = true → s.running = false →
      exec (.runSecond d) s = .next { s with ret := { s.ret with runSeconds := s.ret.runSeconds + 1, fraction := 0 } }) ∧
    (s.ret.marker = false → s.running = false → exec (.runSecond d) s = .next s))

/-! ### The references -/

/-- CONFIGURE REFERENCE writes the named reference's fields, gives the other the remaining priority, writes the shared revertive flag and leaves the selection (R19). It acts on the named
reference's state by the change written, and raises REFERENCE CHANGED for a change of state (R20). A field outside its values is refused BAD PARAMETER. -/
def Obligations.ConfigureReferenceWrites : Prop :=
  ∀ (d : Nat) (b line prio rev : Byte) (s : State), s.listens →
    let p := Period.of d [b, line, prio, rev]
    let good := b.toNat ≤ 1 ∧ line.toNat ≤ 3 ∧ 1 ≤ prio.toNat ∧ prio.toNat ≤ 2 ∧ rev.toNat ≤ 1
    (¬good → exec (.configureReference p) s = .next { s.handed p with link := .working (.formed [0x13, 0x03]) }) ∧
    (good →
      let r : Ref := if b = 0 then .a else .b
      let on := line.getLsbD 0
      let pol : Edge := if line.getLsbD 1 then .falling else .rising
      let x := s.ref r
      ∃ t, exec (.configureReference p) s = .next t ∧
        t = { s.handed p with mon := t.mon, att := { s.att with flags := t.att.flags }, link := .working (.formed [0x13, 0x00]) } ∧
        t.mon.revertive = decide (rev.toNat = 1) ∧ t.mon.selection = s.mon.selection ∧ t.mon.firstEdge = s.mon.firstEdge ∧
        t.ref (otherRef r) = { s.ref (otherRef r) with priority := 3 - prio.toNat } ∧
        (t.ref r).enabled = on ∧ (t.ref r).polarity = pol ∧ (t.ref r).priority = prio.toNat ∧
        t.att.flags = (if (t.ref r).state = x.state then s.att.flags else s.att.flags ||| 0x0100) ∧
        (x.enabled = true → on = false → (t.ref r).state = .off ∧ (t.ref r).goodRun = 0 ∧ (t.ref r).faultRun = 0 ∧
          (t.ref r).candidateRun = 0 ∧ (t.ref r).anchor = none ∧ (t.ref r).lastLabel = none ∧ (t.ref r).lastVerdict = none ∧
          (t.ref r).agreement = false ∧ (t.ref r).disagreementReported = false ∧ (t.ref r).leapMismatch = false ∧
          (t.ref r).assembly = [] ∧ (t.ref r).held = none) ∧
        (x.enabled = false → on = true → (t.ref r).state = .acquiring ∧ (t.ref r).goodRun = 0 ∧ (t.ref r).faultRun = 0 ∧
          (t.ref r).candidateRun = 0 ∧ (t.ref r).anchor = none ∧ (t.ref r).lastLabel = none ∧ (t.ref r).held = none) ∧
        (x.enabled = true → on = true → pol ≠ x.polarity → (t.ref r).state = .acquiring ∧ (t.ref r).goodRun = 0 ∧
          (t.ref r).faultRun = 0 ∧ (t.ref r).candidateRun = 0 ∧ (t.ref r).anchor = none ∧ (t.ref r).held = none ∧
          (t.ref r).agreement = false ∧ (t.ref r).disagreementReported = false ∧ (t.ref r).leapMismatch = false ∧
          (t.ref r).lastLabel = x.lastLabel ∧ (t.ref r).assembly = x.assembly) ∧
        (on = x.enabled → (on = true → pol = x.polarity) →
          t.ref r = { x with enabled := on, polarity := pol, priority := prio.toNat }))

/-- ADOPT REFERENCE when it is taken: BAD PARAMETER, WRONG STATE and CHANNELS ON AIR in this order; otherwise the link waits in WORKING for the reference's next GOOD
verdict, and nothing else changes (R32). -/
def Obligations.AdoptReferenceWaits : Prop :=
  ∀ (d : Nat) (b : Byte) (s : State), s.listens →
    let p := Period.of d [b]
    let r : Ref := if b = 0 then .a else .b
    let held := ∃ n : Fin 4, (s.chan n).state = .onAir ∨ (s.chan n).state = .cued ∨ (s.chan n).state = .resuming
    (2 ≤ b.toNat → exec (.adoptReference p) s = .next { s.handed p with link := .working (.formed [0x12, 0x03]) }) ∧
    (b.toNat ≤ 1 → (s.ref r).state ≠ .qualified →
      exec (.adoptReference p) s = .next { s.handed p with link := .working (.formed [0x12, 0x0D]) }) ∧
    (b.toNat ≤ 1 → (s.ref r).state = .qualified → held →
      exec (.adoptReference p) s = .next { s.handed p with link := .working (.formed [0x12, 0x0E]) }) ∧
    (b.toNat ≤ 1 → (s.ref r).state = .qualified → ¬held →
      exec (.adoptReference p) s = .next { s.handed p with link := .working (.adopting r) })

/-- READ REFERENCE returns the named reference's record as section 12.3 lays it out, and changes nothing but the link (R34). -/
def Obligations.ReadReferenceReports : Prop :=
  ∀ (d : Nat) (b : Byte) (s : State), s.listens →
    let p := Period.of d [b]
    let r : Ref := if b = 0 then .a else .b
    let x := s.ref r
    let label : List Byte := match x.lastLabel with
      | none => [0xFF, 0xFF, 0xFF, 0xFF, 0xFF, 0xFF, 0xFF]
      | some m =>
        be8 m.label.year ++ be8 m.label.month ++ be8 m.label.day ++ be8 m.label.hour ++ be8 m.label.minute ++ be8 m.label.second ++
        be8 ((if m.timeValid then 1 else 0) + (if m.leapInsert then 2 else 0) + (if m.leapDelete then 4 else 0))
    (2 ≤ b.toNat → exec (.readReference p) s = .next { s.handed p with link := .working (.formed [0x14, 0x03]) }) ∧
    (b.toNat ≤ 1 → exec (.readReference p) s =
      .next { s.handed p with link := .working (.formed ([0x14, 0x00] ++ beBool x.enabled ++ beBool (x.polarity == .falling) ++
        be8 x.priority ++ beBool s.mon.revertive ++ be8 x.state.code ++ be16 x.goodRun ++ be16 x.faultRun ++ be16 x.candidateRun ++
        be8 (verdictCode x.lastVerdict) ++ label ++ beBool x.agreement ++ beBool (s.mon.selection == some r))) })

/-- REFERENCE_EDGE: an edge of the direction not chosen, a pulse shorter than 5 microseconds and an edge of an OFF reference yield nothing (R21). Without an anchor the edge becomes the anchor at its time to the nearest microsecond, a complete message without line error
becomes the last label, and the held message and line error seen are cleared (R22). That the interval counter counts FIN from the start and a half is read up is the model's choice (log 6), and that the label is taken without a validity test
(log 16) and that a line error seen before a change of polarity counts (log 17) are its readings. -/
def Obligations.FirstEdgeBecomesTheAnchor : Prop :=
  ∀ (d : Nat) (r : Ref) (edge : Edge) (pulse : Nat) (s : State), s.running = true →
    let x := s.ref r
    let us := if s.tb.fselHigh then 10 else 5
    ((x.state = .off ∨ edge ≠ x.polarity ∨ pulse < 5) → exec (.referenceEdge d r edge pulse) s = .next (s.elapse d)) ∧
    (x.state ≠ .off → edge = x.polarity → 5 ≤ pulse → x.anchor = none →
      exec (.referenceEdge d r edge pulse) s = .next ((s.elapse d).setRef r
        { x with
          anchor := some ((2 * (s.fin + d) + us) / (2 * us))
          lastLabel := if x.lineError = false ∧ x.held.isSome = true then x.held else x.lastLabel
          held := none
          lineError := false }))

/-- REFERENCE_EDGE with an anchor held: the edge becomes the anchor and reaches the first verdict of the table of R25 that applies; the runs and the state follow R27, and the last label R26: a valid label without line error replaces it, a label
that is no valid second removes it, and otherwise it is advanced. A verdict other than GOOD measures nothing and adopts nothing. That the interval counter counts FIN from the start and a half is read up is the model's choice (log 6). -/
def Obligations.EdgeReachesItsVerdict : Prop :=
  ∀ (d : Nat) (r : Ref) (edge : Edge) (pulse a : Nat) (s : State), s.running = true →
    (s.ref r).state ≠ .off → edge = (s.ref r).polarity → 5 ≤ pulse → (s.ref r).anchor = some a →
    let x := s.ref r
    let us := if s.tb.fselHigh then 10 else 5
    let now := (2 * (s.fin + d) + us) / (2 * us)
    let verdict : Verdict :=
      if now < a + 999000 ∨ a + 1001000 < now then .offTime
      else if x.held = none ∧ x.lineError = false then .noMessage
      else if x.lineError then .lineError
      else match x.held with
        | none => .noMessage
        | some m =>
          if m.label.valid = false ∨ (∃ l ∈ x.lastLabel, l.advanced.label ≠ m.label) then .badLabel
          else if m.timeValid = false ∨ (m.leapInsert = true ∧ m.leapDelete = true) then .invalid
          else .good
    ∃ t, exec (.referenceEdge d r edge pulse) s = .next t ∧
      (t.ref r).anchor = some now ∧ (t.ref r).lastVerdict = some verdict ∧ (t.ref r).held = none ∧ (t.ref r).lineError = false ∧
      (t.ref r).lastLabel = (match x.held with
        | none => x.lastLabel.map Message.advanced
        | some m => if m.label.valid = false then none else if x.lineError then x.lastLabel.map Message.advanced else some m) ∧
      (verdict = .good →
        (t.ref r).goodRun = min 65535 (x.goodRun + 1) ∧ (t.ref r).faultRun = 0 ∧
        (t.ref r).state = (if x.state = .acquiring ∧ min 65535 (x.goodRun + 1) < 10 then .acquiring else .qualified)) ∧
      (verdict ≠ .good →
        (t.ref r).faultRun = min 65535 (x.faultRun + 1) ∧
        (t.ref r).state =
          (if x.state = .qualified ∧ verdict ≠ .badLabel ∧ verdict ≠ .invalid ∧ min 65535 (x.faultRun + 1) < 5
           then .qualified else .acquiring) ∧
        (t.ref r).goodRun = (if (t.ref r).state = .qualified then x.goodRun else 0) ∧
        t = { s.elapse d with mon := t.mon, att := t.att, link := t.link } ∧ t.mon.selection = s.mon.selection ∧
        t.att.flags = (if (t.ref r).state = x.state then s.att.flags else s.att.flags ||| 0x0100) ∧
        t.link = (if x.state = .qualified ∧ (t.ref r).state ≠ .qualified ∧ s.link = .working (.adopting r)
          then .replyHeld [0x12, 0x0D] else s.link))

/-- A GOOD edge of a QUALIFIED reference, or of an ACQUIRING one that it qualifies, its tenth in a row, which raises REFERENCE CHANGED (R6, R7, R8, R27, R28, R31, R32, R35). Of the selected reference it is measured: the held phase error becomes e and the grade follows; e limited to 50 microseconds corrects the second in progress at once from 0 up, and the one about to begin below 0, and it enters the window in place of a correction that the same second was to have (the model's reading of R7, log 28).
At a first selection with e above 100 microseconds and no channel in ON AIR, CUED or RESUMING it steps station time to the edge instead, and the channel seconds move with it (R120, logs 10, 23). A reference that is not selected while the other one is changes nothing but its own record. With none selected, a reference that agrees changes nothing else; one that disagrees is adopted when the timebase
is UNSET or no channel is in service, and otherwise raises TIME DISAGREE once. An adoption whose label is second 60 is carried to the next GOOD edge, and there taken or dropped by the same tests. An ADOPT REFERENCE that waits adopts and holds DONE,
holds CHANNELS ON AIR where a channel is in ON AIR, CUED or RESUMING, and goes on waiting over a second 60 (log 36). The leap flags of the selected reference are compared with the LEAP entries at the end of the label's month: LEAP DISAGREE is raised at a mismatch while the leap mismatch flag is clear, and the flag follows (R33; the check's
place in the edge and the year of the label are readings, logs 18 and 19). The phase and the interval counter are the model's (logs 4, 6), and so are the second that
follows the last of 2199 (log 46) and that an adoption asked for raises no TIME DISAGREE (log 45). -/
def Obligations.GoodEdgesMeasureOrAdopt : Prop :=
  ∀ (d pulse a : Nat) (r : Ref) (m : Message) (s : State), s.running = true → 5 ≤ pulse →
    let x := s.ref r
    let us := if s.tb.fselHigh then 10 else 5
    let now := (2 * (s.fin + d) + us) / (2 * us)
    x.state = .qualified ∨ (x.state = .acquiring ∧ 9 ≤ x.goodRun) → x.anchor = some a → a + 999000 ≤ now → now ≤ a + 1001000 → x.held = some m → x.lineError = false →
    m.label.valid = true → (∀ l ∈ x.lastLabel, l.advanced.label = m.label) → m.timeValid = true → ¬(m.leapInsert = true ∧ m.leapDelete = true) →
    let edge := exec (.referenceEdge d r x.polarity pulse) s
    let period : Int := if s.tb.fselHigh then 100 else 200
    let nominal : Int := if s.tb.fselHigh then 10000000 else 5000000
    let p := (s.elapse d).phase
    let e : Int := if p < 500000 then p else (p : Int) - 1000000
    let nearest := fun u : UtcSecond => if p < 500000 then u else s.secondAfter u
    let agrees := ∃ u, s.tb.time = some u ∧ labelOfSecond (nearest u) = m.label
    let year := s.ret.century * 100 + m.label.year
    let minute := minuteOf year m.label.month m.label.day m.label.hour m.label.minute
    let holdsTime := ∃ n : Fin 4, (s.chan n).state = .onAir ∨ (s.chan n).state = .cued ∨ (s.chan n).state = .resuming
    let inService := ∃ n : Fin 4, (s.chan n).state.inService = true
    let waits := s.link = .working (.adopting r)
    let flags := if x.state = .qualified then s.att.flags else s.att.flags ||| 0x0100
    let reported := x.state = .qualified ∧ x.disagreementReported = true
    let takes := (x.carried = true ∨ ¬agrees) ∧ (s.tb.state = .unset ∨ ¬inService)
    let announced := fun k : Kind => ∃ y ∈ s.cal.entries, y.kind = k ∧ y.state ≠ .withdrawn ∧ y.instant = monthEndInstant year m.label.month
    let mismatch := ¬((m.leapInsert = true ↔ announced .leapInsert) ∧ (m.leapDelete = true ↔ announced .leapDelete))
    let newMismatch := mismatch ∧ x.leapMismatch = false
    let adopted := fun t : State => t.tb.state = .locked ∧ t.tb.grade = 0 ∧ t.tb.phaseError = 0 ∧ t.tb.elapsed = 0 ∧
      t.tb.time = some ⟨minute, m.label.second⟩ ∧ t.ret = { s.ret with century := centuryOf minute } ∧
      (s.mon.revertive = false → t.mon.selection = some r) ∧ (t.ref r).agreement = true ∧ (t.ref r).carried = false ∧ t.meter.working = none
    (¬waits → s.mon.selection = some r → s.tb.state = .locked → s.tb.time ≠ none → s.mon.firstEdge = false ∨ e.natAbs ≤ 100 ∨ holdsTime →
      ∃ t, edge = .next t ∧ t.mon.selection = some r ∧ t.mon.firstEdge = false ∧ ((t.ref r).agreement = true ↔ agrees) ∧
        (t.ref r).carried = false ∧ ((t.ref r).leapMismatch = true ↔ mismatch) ∧
        t = { s.elapse d with tb := t.tb, mon := t.mon, att := { s.att with flags := flags |||
          (if newMismatch then 0x0400 else 0) ||| (if s.tb.grade ≠ (if e.natAbs ≤ 10 then 0 else 1) then 0x0080 else 0) } } ∧
        t.tb = { (s.elapse d).tb with
          phaseError := e, grade := if e.natAbs ≤ 10 then 0 else 1
          gradeChanged := s.tb.gradeChanged || decide (s.tb.grade ≠ if e.natAbs ≤ 10 then 0 else 1)
          measured := t.tb.measured, slewed := t.tb.slewed, window := t.tb.window, length := t.tb.length, remainder := t.tb.remainder } ∧
        (e < 0 → t.tb.measured = some e ∧ t.tb.slewed = s.tb.slewed ∧ t.tb.window = s.tb.window ∧ t.tb.length = s.tb.length ∧ t.tb.remainder = s.tb.remainder) ∧
        (0 ≤ e → s.tb.sound → t.tb.measured = s.tb.measured ∧ t.tb.slewed = true ∧
          t.tb.window = (if s.tb.slewed then s.tb.window.dropLast ++ [min 50 e] else (s.tb.window ++ [min 50 e]).drop (s.tb.window.length + 1 - 64)) ∧
          ∃ k : Int, (t.tb.length : Int) = nominal + k ∧ t.tb.remainder = min 50 e * 1000 + s.tb.carried - k * period ∧
            -period ≤ 2 * t.tb.remainder ∧ 2 * t.tb.remainder < period)) ∧
    (∀ u, ¬waits → s.mon.selection = some r → s.tb.time = some u → s.mon.firstEdge = true → 100 < e.natAbs → ¬holdsTime →
      (nearest u).minute < minutesKept →
      ∃ t, edge = .next t ∧ t.tb.time = some (nearest u) ∧ t.tb.elapsed = 0 ∧ t.tb.phaseError = 0 ∧ t.meter.working = none ∧ t.mon.firstEdge = false ∧
        ((t.ref r).leapMismatch = true ↔ mismatch ∧ t.mon.selection = some r) ∧
        t.att.flags.getLsbD 10 = (s.att.flags.getLsbD 10 || decide newMismatch) ∧
        (500000 ≤ p → 0 < s.tb.length → ∀ n : Fin 4, (s.chan n).inForce ≤ 50000 →
          (t.chan n).nextSecond = some (if (s.chan n).inForce = 0 then nearest u else s.secondAfter (nearest u)))) ∧
    (¬waits → s.mon.selection = some (otherRef r) →
      ∃ t, edge = .next t ∧ t = { s.elapse d with mon := t.mon, att := { s.att with flags := flags } } ∧ t.mon.selection = s.mon.selection ∧
        t.ref (otherRef r) = s.ref (otherRef r) ∧ (t.ref r).state = .qualified ∧ ((t.ref r).agreement = true ↔ agrees) ∧
        (t.ref r).carried = false ∧ (t.ref r).leapMismatch = x.leapMismatch) ∧
    (¬waits → s.mon.selection = none → ¬takes → agrees →
      ∃ t, edge = .next t ∧ t = { s.elapse d with mon := t.mon, att := { s.att with flags := flags } } ∧ (t.ref r).agreement = true ∧ (t.ref r).carried = false ∧
        t.mon.selection = none) ∧
    (¬waits → s.mon.selection = none → takes → m.label.second ≠ 60 → dateExists year m.label.month m.label.day = true →
      ∃ t, edge = .next t ∧ adopted t ∧ t.link = s.link ∧ t.att.flags &&& 0x0100 ≠ 0) ∧
    (¬waits → s.mon.selection = none → takes → m.label.second = 60 →
      ∃ t, edge = .next t ∧ t = { s.elapse d with mon := t.mon, att := { s.att with flags := flags } } ∧ (t.ref r).carried = true ∧ ((t.ref r).agreement = true ↔ agrees) ∧
        t.mon.selection = none) ∧
    (¬waits → s.mon.selection = none → ¬agrees → s.tb.state ≠ .unset → inService →
      ∃ t, edge = .next t ∧ t = { s.elapse d with mon := t.mon, att := { s.att with flags := t.att.flags } } ∧ t.mon.selection = none ∧
        (t.ref r).disagreementReported = true ∧ (t.ref r).carried = false ∧
        t.att.flags = (if reported then flags else flags ||| 0x0200)) ∧
    (waits → ¬holdsTime → m.label.second ≠ 60 → dateExists year m.label.month m.label.day = true →
      ∃ t, edge = .next t ∧ adopted t ∧ t.link = .replyHeld [0x12, 0x00] ∧
        t.att.flags.getLsbD 10 = (s.att.flags.getLsbD 10 || decide (s.mon.selection = some r ∧ newMismatch))) ∧
    (waits → ¬holdsTime → m.label.second = 60 → ∃ t, edge = .next t ∧ t.link = s.link) ∧
    (waits → holdsTime → ∃ t, edge = .next t ∧ t.link = .replyHeld [0x12, 0x0E])

/-- NO_EDGE: 1.1 s after the anchor the reference second reaches the verdict NO EDGE, the anchor moves forward by exactly one second, a held message is discarded, and a last label
is advanced by one second (R22, R25, R26). That the command moves the clock to that moment (log 2), that the moment is counted in microseconds of FIN (log 5), and that the
interval counter counts FIN from the start (log 6) are the model's choices. -/
def Obligations.NoEdgeMovesTheAnchor : Prop :=
  ∀ (r : Ref) (a : Nat) (s : State), s.running = true → (s.ref r).state ≠ .off → (s.ref r).anchor = some a →
    let x := s.ref r
    let us := if s.tb.fselHigh then 10 else 5
    ∃ t, exec (.noEdge r) s = .next t ∧
      t = { s.elapse ((a + 1100000) * us - s.fin) with mon := t.mon, att := t.att, link := t.link } ∧
      (t.ref r).anchor = some (a + 1000000) ∧ (t.ref r).lastVerdict = some .noEdge ∧ (t.ref r).held = none ∧
      (t.ref r).lineError = false ∧ (t.ref r).lastLabel = x.lastLabel.map Message.advanced ∧
      (t.ref r).faultRun = min 65535 (x.faultRun + 1) ∧
      (t.ref r).state = (if x.state = .qualified ∧ min 65535 (x.faultRun + 1) < 5 then .qualified else .acquiring) ∧
      t.ref (otherRef r) = s.ref (otherRef r) ∧ t.mon.selection = s.mon.selection

/-- REFERENCE_CHARACTER (R23, R24): an OFF reference's line is not read; wrong parity or a low stop bit discards the message in assembly and sets line error seen; the start value begins a message and any other
character outside a message is ignored; a start value as character 1 to 7 is an overrun that begins a new message; the tenth character completes the message if it is the exclusive-or of characters 1 to 8, else it is a
check mismatch; more than 950 ms after the anchor a complete message is not taken (log 37). LATE_MESSAGE discards a message in assembly 950 ms after the anchor and sets line error seen.
That the command moves the clock to that moment (log 2), that the 950 ms are counted in microseconds of FIN (log 5), and how the interval counter is read (log 6) are the model's choices. -/
def Obligations.CharactersMakeMessages : Prop :=
  (∀ (d : Nat) (r : Ref) (v : Byte) (parity stop : Bool) (s : State), s.running = true →
    let x := s.ref r
    let ones := ((List.range 8).filter fun k => v.getLsbD k).length + (if parity then 1 else 0)
    let late := ∃ a ∈ x.anchor, (a + 950000) * (if s.tb.fselHigh then 10 else 5) < s.fin + d
    let becomes := fun y : RefRecord => exec (.referenceCharacter d r v parity stop) s = .next ((s.elapse d).setRef r y)
    (x.state = .off → exec (.referenceCharacter d r v parity stop) s = .next (s.elapse d)) ∧
    (x.state ≠ .off → ones % 2 = 0 ∨ stop = false → becomes { x with assembly := [], lineError := true }) ∧
    (x.state ≠ .off → ones % 2 = 1 → stop = true →
      (x.assembly = [] → becomes { x with assembly := if v = 0xF5 then [v] else [] }) ∧
      (1 ≤ x.assembly.length → x.assembly.length ≤ 7 → v = 0xF5 → becomes { x with assembly := [v], lineError := true }) ∧
      (1 ≤ x.assembly.length → x.assembly.length ≤ 8 → (v = 0xF5 → x.assembly.length = 8) →
        becomes { x with assembly := x.assembly ++ [v] }) ∧
      (∀ c0 c1 c2 c3 c4 c5 c6 c7 c8 : Byte, x.assembly = [c0, c1, c2, c3, c4, c5, c6, c7, c8] →
        let m : Message := ⟨⟨c1.toNat, c2.toNat, c3.toNat, c4.toNat, c5.toNat, c6.toNat⟩, c7.getLsbD 0, c7.getLsbD 1, c7.getLsbD 2⟩
        (c1 ^^^ c2 ^^^ c3 ^^^ c4 ^^^ c5 ^^^ c6 ^^^ c7 ^^^ c8 = v →
          (¬late → becomes { x with assembly := [], held := some m }) ∧ (late → becomes { x with assembly := [] })) ∧
        (c1 ^^^ c2 ^^^ c3 ^^^ c4 ^^^ c5 ^^^ c6 ^^^ c7 ^^^ c8 ≠ v → becomes { x with assembly := [], lineError := true })))) ∧
  (∀ (r : Ref) (a : Nat) (s : State), s.running = true → (s.ref r).anchor = some a → (s.ref r).assembly ≠ [] →
    exec (.lateMessage r) s =
      .next ((s.elapse ((a + 950000) * (if s.tb.fselHigh then 10 else 5) - s.fin)).setRef r
        { s.ref r with assembly := [], lineError := true }))

/-! ### The profiles -/

/-- DEFINE PROFILE (R40): BAD PARAMETER, then PROFILE IN USE while a channel in service links the profile; otherwise the three values are written, the profile is DEFINED, and the reply is DONE,
whatever the timebase and the calendar hold; nothing else changes and no cause is raised. -/
def Obligations.DefineProfileWrites : Prop :=
  ∀ (d : Nat) (i label offset summer : Byte) (s : State), s.listens →
    let p := Period.of d [i, label, offset, summer]
    let good := i.toNat ≤ 3 ∧ label.toNat ≤ 3 ∧ -48 ≤ offset.toInt ∧ offset.toInt ≤ 56 ∧ summer.toNat ≤ 1
    let inUse := ∃ n : Fin 4, (s.chan n).cfg.link.val = i.toNat ∧ (s.chan n).state.inService = true
    (¬good → exec (.defineProfile p) s = .next { s.handed p with link := .working (.formed [0x20, 0x03]) }) ∧
    (good → inUse → exec (.defineProfile p) s = .next { s.handed p with link := .working (.formed [0x20, 0x0C]) }) ∧
    (good → ¬inUse → ∀ k : Fin 4, k.val = i.toNat →
      exec (.defineProfile p) s =
        .next { s.handed p with
          profiles := s.profiles.set k
            { defined := true, labelCode := label.toNat, offset := offset.toInt, summer := decide (summer.toNat = 1) }
          link := .working (.formed [0x20, 0x00]) })

/-- CLEAR PROFILE (R41): BAD PARAMETER; PROFILE IN USE while any channel links the profile in any state, or while the calendar holds an OFFSET CHANGE entry that targets it in any state but DONE; otherwise
the profile is UNUSED with label code 0, offset 0 and summer flag OFF, and the reply is DONE; nothing else changes and no cause is raised. -/
def Obligations.ClearProfileClears : Prop :=
  ∀ (d : Nat) (i : Byte) (s : State), s.listens →
    let p := Period.of d [i]
    let linked := ∃ n : Fin 4, (s.chan n).cfg.link.val = i.toNat
    let targeted := ∃ e ∈ s.cal.entries, e.state ≠ .done ∧
      ∃ (k : Fin 4) (o : Int) (f : Bool), e.payload = .offsetChange k o f ∧ k.val = i.toNat
    (4 ≤ i.toNat → exec (.clearProfile p) s = .next { s.handed p with link := .working (.formed [0x21, 0x03]) }) ∧
    (i.toNat ≤ 3 → linked ∨ targeted →
      exec (.clearProfile p) s = .next { s.handed p with link := .working (.formed [0x21, 0x0C]) }) ∧
    (i.toNat ≤ 3 → ¬linked → ¬targeted → ∀ k : Fin 4, k.val = i.toNat →
      exec (.clearProfile p) s =
        .next { s.handed p with
          profiles := s.profiles.set k { defined := false, labelCode := 0, offset := 0, summer := false }
          link := .working (.formed [0x21, 0x00]) })

/-- READ PROFILE returns the state, the held values and the pending count, the number of OFFSET CHANGE entries that target the profile in any state but DONE, and changes nothing but the link (R42). -/
def Obligations.ReadProfileReports : Prop :=
  ∀ (d : Nat) (i : Byte) (s : State), s.listens →
    let p := Period.of d [i]
    (4 ≤ i.toNat → exec (.readProfile p) s = .next { s.handed p with link := .working (.formed [0x22, 0x03]) }) ∧
    (∀ k : Fin 4, k.val = i.toNat →
      let x := s.profiles.get k
      let pending := (s.cal.entries.filter fun e => match e.payload with
        | .offsetChange t _ _ => decide (t = k) && !decide (e.state = .done)
        | _ => false).length
      exec (.readProfile p) s = .next { s.handed p with link := .working (.formed ([0x22, 0x00] ++
        (if x.defined then [1] else [0]) ++ be8 x.labelCode ++ be8s x.offset ++ (if x.summer then [1] else [0]) ++ be8 pending)) })

/-! ### The calendar -/

/-- ENTER CHANGE whose checks all pass (R81 to R87): the entry is SCHEDULED with its marks clear and no outcome, in its place in calendar order; it takes the next ident, or the first after it that no entry holds, 65,535 followed by 1 (R58);
the next ident is the one after; CALENDAR NEAR FULL is raised when the count rises from 27 to 28; the reply carries the ident; the ring and everything else stay. That the limits count 60 seconds to every minute, second 60 as the one after 59, is the model's reading (log 35);
the ranges of R81 are read by kind?, terms?, level? and yesNo? of Operands.lean. -/
def Obligations.EnterChangeAdds : Prop :=
  ∀ (d : Nat) (k : Byte) (rest : List Byte) (f : ChangeFields) (kind : Kind) (t : Terms) (level : Nat) (auto : Bool) (now : UtcSecond)
    (s : State), s.listens → changeFields? rest = some f → kind? k = some kind → f.terms? kind = some t → level? kind f.level = some level →
    yesNo? f.auto = some auto → s.cal.sound → s.tb.time = some now → s.tb.grade ≠ 6 → s.lacksProfile t.payload = false →
    now.linear + 3600 * t.lead + 120 ≤ t.instant * 60 → t.instant * 60 ≤ now.linear + 34560000 →
    (∀ e ∈ s.cal.entries, t.conflictsWith e = false) → s.cal.entries.length < 32 →
    let p := Period.of d (k :: rest)
    let identPlaced := fun j : Nat => (s.cal.nextIdent - 1 + j) % 65535 + 1
    ∃ (j : Nat) (u : State), exec (.enterChange p) s = .next u ∧
      (∀ e ∈ s.cal.entries, e.ident ≠ identPlaced j) ∧ (∀ i < j, ∃ e ∈ s.cal.entries, e.ident = identPlaced i) ∧
      u = { s.handed p with
        cal := { s.cal with entries := u.cal.entries, nextIdent := identPlaced (j + 1) }
        att := { s.att with flags := if s.cal.entries.length = 27 then s.att.flags ||| 0x0010 else s.att.flags }
        link := .working (.formed ([0x30, 0x00] ++ be16 (identPlaced j))) } ∧
      u.cal.entries.Perm
        ({ ident := identPlaced j, payload := t.payload, state := .scheduled, instant := t.instant, lead := t.lead, level := level, autoRetire := auto
           locked := false, late := false, leapExecuted := false, outcome := none } :: s.cal.entries) ∧
      u.cal.entries.Pairwise (fun e g => e.instant < g.instant ∨ (e.instant = g.instant ∧ e.ident < g.ident))

/-- ENTER CHANGE: the first check that fails gives the refusal (R81 to R87): BAD PARAMETER, NO TIME, NO PROFILE, TOO SOON, TOO FAR, CONFLICT, CALENDAR FULL; a refusal changes nothing but the link. Two LEAP entries conflict at one
instant; two OFFSET CHANGE entries for one profile conflict when their windows overlap; two INTERRUPTION entries with a channel in common conflict when their outages overlap.
That TOO SOON and TOO FAR count 60 seconds to every minute, second 60 as the one after 59, is the model's reading (log 35). The ranges of R81 are not spelled out here: they are what kind?, terms?, level? and yesNo? of Operands.lean accept. -/
def Obligations.EnterChangeRefusals : Prop :=
  ∀ (d : Nat) (k : Byte) (rest : List Byte) (f : ChangeFields) (s : State), s.listens → changeFields? rest = some f →
    let p := Period.of d (k :: rest)
    let refused := fun code : Byte => exec (.enterChange p) s = .next { s.handed p with link := .working (.formed [0x30, code]) }
    (kind? k = none → refused 3) ∧
    (∀ kind, kind? k = some kind →
      ((f.terms? kind = none ∨ level? kind f.level = none ∨ yesNo? f.auto = none) → refused 3) ∧
      (∀ (t : Terms) (level : Nat) (auto : Bool), f.terms? kind = some t → level? kind f.level = some level → yesNo? f.auto = some auto →
        (s.tb.grade = 6 → refused 4) ∧
        (∀ now, s.tb.time = some now → s.tb.grade ≠ 6 →
          let noProfile := ∃ (i : Fin 4) (o : Int) (g : Bool), t.payload = .offsetChange i o g ∧ (s.profiles.get i).defined = false
          let early := t.instant * 60 < now.minute * 60 + now.second + t.lead * 3600 + 120
          let far := (now.minute + 576000) * 60 + now.second < t.instant * 60
          let clash := ∃ e ∈ s.cal.entries, e.state ≠ .withdrawn ∧
            (((kind = .leapInsert ∨ kind = .leapDelete) ∧ (e.kind = .leapInsert ∨ e.kind = .leapDelete) ∧ e.instant = t.instant) ∨
             (e.state ≠ .done ∧ (∃ (i : Fin 4) (o o' : Int) (g g' : Bool), t.payload = .offsetChange i o g ∧ e.payload = .offsetChange i o' g') ∧
               t.instant - 60 * t.lead < e.instant ∧ e.instant - 60 * e.lead < t.instant) ∨
             (e.state ≠ .done ∧ ∃ (c c' : BitVec 4) (m m' : Nat), t.payload = .interruption c m ∧ e.payload = .interruption c' m' ∧
               (∃ n : Fin 4, c.getLsbD n = true ∧ c'.getLsbD n = true) ∧ t.instant < e.instant + m' ∧ e.instant < t.instant + m))
          (noProfile → refused 11) ∧
          (¬noProfile → early → refused 5) ∧
          (¬noProfile → ¬early → far → refused 6) ∧
          (¬noProfile → ¬early → ¬far → clash → refused 7) ∧
          (¬noProfile → ¬early → ¬far → ¬clash → 32 ≤ s.cal.entries.length → refused 8))))

/-- AMEND CHANGE (R88 to R90): NO SUCH CHANGE for an ident that no entry holds or a WITHDRAWN entry; WRONG STATE for a DONE one. With every term equal, the level and auto-retire alone are written, whatever the locked mark. With
a term that differs, LOCKED when the mark is set; and on an unlocked entry the checks of ENTER CHANGE in their order, BAD PARAMETER, NO TIME, NO PROFILE, TOO SOON, TOO FAR and CONFLICT,
the last against the other entries alone; where all pass, the terms, level and auto-retire are replaced and the entry moves to its place. The limits count 60 seconds to every minute (log 35). -/
def Obligations.AmendChangeRewrites : Prop :=
  ∀ (d : Nat) (hi lo : Byte) (rest : List Byte) (f : ChangeFields) (s : State), s.listens → changeFields? rest = some f → s.cal.sound →
    let p := Period.of d (hi :: lo :: rest)
    let refused := fun code : Byte => exec (.amendChange p) s = .next { s.handed p with link := .working (.formed [0x31, code]) }
    ((∀ e ∈ s.cal.entries, e.ident ≠ word16 hi lo) → refused 9) ∧
    (∀ e ∈ s.cal.entries, e.ident = word16 hi lo →
      let same := f.terms? e.kind = some ⟨e.instant, e.lead, e.payload⟩
      (e.state = .withdrawn → refused 9) ∧
      (e.state = .done → refused 13) ∧
      (e.state ≠ .withdrawn → e.state ≠ .done → same → (level? e.kind f.level = none ∨ yesNo? f.auto = none) → refused 3) ∧
      (e.state ≠ .withdrawn → e.state ≠ .done → ¬same → e.locked = true → refused 10) ∧
      (e.state ≠ .withdrawn → e.state ≠ .done → ¬same → e.locked = false →
        ((f.terms? e.kind = none ∨ level? e.kind f.level = none ∨ yesNo? f.auto = none) → refused 3) ∧
        (∀ (t : Terms) (level : Nat) (auto : Bool), f.terms? e.kind = some t → level? e.kind f.level = some level → yesNo? f.auto = some auto →
          (s.tb.grade = 6 → refused 4) ∧
          (∀ now, s.tb.time = some now → s.tb.grade ≠ 6 →
            let noProfile := ∃ (i : Fin 4) (o : Int) (g : Bool), t.payload = .offsetChange i o g ∧ (s.profiles.get i).defined = false
            let early := t.instant * 60 < now.minute * 60 + now.second + t.lead * 3600 + 120
            let far := (now.minute + 576000) * 60 + now.second < t.instant * 60
            let clash := ∃ x ∈ s.cal.entries, x.ident ≠ e.ident ∧ x.state ≠ .withdrawn ∧
              (((e.kind = .leapInsert ∨ e.kind = .leapDelete) ∧ (x.kind = .leapInsert ∨ x.kind = .leapDelete) ∧ x.instant = t.instant) ∨
               (x.state ≠ .done ∧ (∃ (i : Fin 4) (o o' : Int) (g g' : Bool), t.payload = .offsetChange i o g ∧ x.payload = .offsetChange i o' g') ∧
                 t.instant - 60 * t.lead < x.instant ∧ x.instant - 60 * x.lead < t.instant) ∨
               (x.state ≠ .done ∧ ∃ (c c' : BitVec 4) (m m' : Nat), t.payload = .interruption c m ∧ x.payload = .interruption c' m' ∧
                 (∃ n : Fin 4, c.getLsbD n = true ∧ c'.getLsbD n = true) ∧ t.instant < x.instant + m' ∧ x.instant < t.instant + m))
            (noProfile → refused 11) ∧
            (¬noProfile → early → refused 5) ∧
            (¬noProfile → ¬early → far → refused 6) ∧
            (¬noProfile → ¬early → ¬far → clash → refused 7)))) ∧
      (∀ (level : Nat) (auto : Bool), e.state ≠ .withdrawn → e.state ≠ .done → level? e.kind f.level = some level → yesNo? f.auto = some auto →
        (same → exec (.amendChange p) s = .next { s.handed p with
          cal := { s.cal with entries := s.cal.entries.map fun x =>
            if x.ident = e.ident then { x with level := level, autoRetire := auto } else x }
          link := .working (.formed [0x31, 0x00]) }) ∧
        (∀ t, ¬same → e.locked = false → f.terms? e.kind = some t →
          s.checkTerms t (s.cal.entries.filter fun x => x.ident ≠ e.ident) = none →
          ∃ u, exec (.amendChange p) s = .next u ∧
            u = { s.handed p with cal := { s.cal with entries := u.cal.entries }, link := .working (.formed [0x31, 0x00]) } ∧
            u.cal.entries.Perm
              ({ e with instant := t.instant, lead := t.lead, payload := t.payload, level := level, autoRetire := auto } ::
                s.cal.entries.filter fun x => x.ident ≠ e.ident) ∧
            u.cal.entries.Pairwise (fun x g => x.instant < g.instant ∨ (x.instant = g.instant ∧ x.ident < g.ident)))))

/-- WITHDRAW CHANGE, by the table of R91: NO SUCH CHANGE for an ident no entry holds or a WITHDRAWN entry; a SCHEDULED entry is removed at once; an ANNOUNCING one becomes WITHDRAWN and leaves the ring and the four arbiters, its other fields kept; LOCKED for a
COMMITTED or IN EFFECT one, WRONG STATE for a DONE one. No cause is raised. -/
def Obligations.WithdrawChangeByState : Prop :=
  ∀ (d : Nat) (hi lo : Byte) (s : State), s.listens → s.cal.sound →
    let p := Period.of d [hi, lo]
    let refused := fun code : Byte => exec (.withdrawChange p) s = .next { s.handed p with link := .working (.formed [0x32, code]) }
    ((∀ e ∈ s.cal.entries, e.ident ≠ word16 hi lo) → refused 9) ∧
    (∀ e ∈ s.cal.entries, e.ident = word16 hi lo →
      (e.state = .withdrawn → refused 9) ∧
      (e.state = .committed ∨ e.state = .inEffect → refused 10) ∧
      (e.state = .done → refused 13) ∧
      (e.state = .scheduled → exec (.withdrawChange p) s = .next { s.handed p with
        cal := { s.cal with entries := s.cal.entries.filter fun x => x.ident ≠ e.ident }, link := .working (.formed [0x32, 0x00]) }) ∧
      (e.state = .announcing → exec (.withdrawChange p) s = .next { s.handed p with
        cal := { s.cal with
          entries := s.cal.entries.map fun x => if x.ident = e.ident then { x with state := .withdrawn } else x
          ring := s.cal.ring.filter fun i => i ≠ e.ident }
        chans := s.chans.map fun c => { c with arbiter := { c.arbiter with
          inService := if (∃ x ∈ c.arbiter.inService, x.ident = e.ident) then none else c.arbiter.inService
          stack := c.arbiter.stack.filter fun x => x.ident ≠ e.ident } }
        link := .working (.formed [0x32, 0x00]) }))

/-- RETIRE CHANGE (R92, R93): NO SUCH CHANGE for an ident no entry holds or a WITHDRAWN entry; WRONG STATE for one in SCHEDULED, ANNOUNCING or COMMITTED; a DONE entry is removed; an IN EFFECT one becomes DONE, CUT SHORT, is removed when its auto-retire is set,
and its release is handed to the four channels; neither INTERRUPTION ENDED nor any other calendar cause is raised. A channel that claims the entry loses the claim, and becomes CUED at its boundary (R161; the mark that carries it there is the model's, log 21). -/
def Obligations.RetireChangeByState : Prop :=
  ∀ (d : Nat) (hi lo : Byte) (s : State), s.listens → s.cal.sound →
    let p := Period.of d [hi, lo]
    let refused := fun code : Byte => exec (.retireChange p) s = .next { s.handed p with link := .working (.formed [0x33, code]) }
    ((∀ e ∈ s.cal.entries, e.ident ≠ word16 hi lo) → refused 9) ∧
    (∀ e ∈ s.cal.entries, e.ident = word16 hi lo →
      (e.state = .withdrawn → refused 9) ∧
      (e.state = .scheduled ∨ e.state = .announcing ∨ e.state = .committed → refused 13) ∧
      (e.state = .done → exec (.retireChange p) s = .next { s.handed p with
        cal := { s.cal with entries := s.cal.entries.filter fun x => x.ident ≠ e.ident }, link := .working (.formed [0x33, 0x00]) }) ∧
      (e.state = .inEffect →
        let entries := if e.autoRetire then s.cal.entries.filter fun x => x.ident ≠ e.ident
          else s.cal.entries.map fun x => if x.ident = e.ident then { x with state := .done, outcome := some .cutShort } else x
        ∃ t, exec (.retireChange p) s = .next t ∧
          t = { s.handed p with
            cal := { s.cal with entries := entries }, chans := t.chans, meter := t.meter, att := { s.att with flags := t.att.flags }
            link := .working (.formed [0x33, 0x00]) } ∧
          (t.att.flags ||| 0x0060 = s.att.flags ||| 0x0060) ∧
          (∀ n : Fin 4, (s.chan n).state = .held .calendar → (s.chan n).heldBy = some e.ident → (s.chan n).history.length < 4 →
            (t.chan n).state = .resuming ∧ (t.chan n).history = (s.chan n).history ++ [s.ret.runSeconds] ∧ t.carrierPin n = true) ∧
          (∀ n : Fin 4, (s.chan n).state = .held .calendar → (s.chan n).heldBy = some e.ident → 4 ≤ (s.chan n).history.length →
            t.chan n = { s.chan n with heldBy := none, resumeDeferred := true }) ∧
          (∀ n : Fin 4, (s.chan n).claim = some e.ident → (s.chan n).heldBy ≠ some e.ident →
            t.chan n = { s.chan n with claim := none, claimCancelled := true } ∧
            (∀ v, (s.chan n).nextSecond = some v → v.second = 0 → (s.chan n).quietDecided = false →
              (s.chan n).holdPending = false → ∃ u, exec (.channelSecondStart n) t = .next u ∧ (u.chan n).state = .cued)) ∧
          (∀ n : Fin 4, (s.chan n).heldBy ≠ some e.ident → (s.chan n).claim ≠ some e.ident → (s.chan n).state ≠ .carrier →
            t.chan n = s.chan n)))

/-- READ CHANGE returns the record of the entry that holds the ident, the payload fields of other kinds 0 and the ring position counted from 1, 0 when it is not in the ring; NO SUCH CHANGE for any other ident (R94). -/
def Obligations.ReadChangeReports : Prop :=
  ∀ (d : Nat) (hi lo : Byte) (s : State), s.listens → s.cal.sound →
    let p := Period.of d [hi, lo]
    ((∀ e ∈ s.cal.entries, e.ident ≠ word16 hi lo) →
      exec (.readChange p) s = .next { s.handed p with link := .working (.formed [0x34, 0x09]) }) ∧
    (∀ e ∈ s.cal.entries, e.ident = word16 hi lo →
      let payload : List Byte := match e.payload with
        | .offsetChange t o f => be8 t ++ be8s o ++ (if f then [1] else [0]) ++ [0, 0, 0, 0]
        | .leapInsert => [0, 0, 0, 0, 0, 0, 0]
        | .leapDelete => [0, 0, 0, 0, 0, 0, 0]
        | .interruption c m => [0, 0, 0] ++ be8 c.toNat ++ be16 m ++ [0]
        | .advisory c n => [0, 0, 0] ++ be8 c.toNat ++ [0, 0] ++ be8 n
      let at_ := civilOf (e.instant : Int)
      ∃ position, ((e.ident ∉ s.cal.ring ∧ position = 0) ∨ (1 ≤ position ∧ s.cal.ring[position - 1]? = some e.ident)) ∧
        exec (.readChange p) s = .next { s.handed p with link := .working (.formed ([0x34, 0x00] ++ be16 e.ident ++
          be8 e.kind.code ++ be8 e.state.code ++
          (be8 (at_.year - 2000) ++ be8 at_.month ++ be8 at_.day ++ be8 at_.hour ++ be8 at_.minute) ++
          be8 e.lead ++ be8 e.level ++ beBool e.autoRetire ++ beBool e.locked ++ payload ++ beBool e.late ++ beBool e.leapExecuted ++
          be8 (outcomeCode e.outcome) ++ be8 position)) })

/-- FIND CHANGE (R95): BAD PARAMETER for a start instant that is no valid UTC minute or a skip count above 31. Otherwise the reply is DONE with the count of the matching entries and the ident of the one after as many as the
skip count in calendar order, 0 when there is none; nothing but the link changes. -/
def Obligations.FindChangeSearches : Prop :=
  ∀ (d : Nat) (y mo da h mi kinds states skip : Byte) (s : State), s.listens →
    let p := Period.of d [y, mo, da, h, mi, kinds, states, skip]
    let valid := y.toNat ≤ 199 ∧ 1 ≤ mo.toNat ∧ mo.toNat ≤ 12 ∧ 1 ≤ da.toNat ∧
      da.toNat ≤ monthLength (2000 + y.toNat) mo.toNat ∧ h.toNat ≤ 23 ∧ mi.toNat ≤ 59 ∧ skip.toNat ≤ 31
    let start := minuteOf (2000 + y.toNat) mo.toNat da.toNat h.toNat mi.toNat
    let found := s.cal.entries.filter fun e =>
      decide (start ≤ e.instant) && kinds.getLsbD (e.kind.code - 1) && states.getLsbD (e.state.code - 1)
    (¬valid → exec (.findChange p) s = .next { s.handed p with link := .working (.formed [0x35, 0x03]) }) ∧
    (valid → exec (.findChange p) s = .next { s.handed p with link := .working (.formed ([0x35, 0x00] ++ be8 found.length ++
      (match found[skip.toNat]? with
        | some e => be16 e.ident
        | none => be16 0))) })

/-- The boundary pass of a sound calendar at the minute `now` (R43, R64 to R71): WITHDRAWN entries are removed; a SCHEDULED entry opens its window and joins the ring, an ANNOUNCING one reaches its commit point, each by its own times; an entry in the ring whose instant is now takes effect and leaves the ring and the four arbiters:
an OFFSET CHANGE (its profile takes the new offset and flag), an ADVISORY and a LEAP entry are DONE, an INTERRUPTION is IN EFFECT; an outage whose end is now is DONE and its release brings its channels back or defers their resume (R159), and clears the claim of a channel that claims it (R161, log 21). DONE with auto-retire is removed. The causes are raised, and the other
profiles, channels and fields stay. STATION_SECOND into a second 0 runs this pass, and then resumes each deferred channel whose budget allows it (R160). -/
def Obligations.BoundaryPassMovesEntries : Prop :=
  (∀ (now : Nat) (s : State), s.cal.sound →
    let opens := fun e : Entry => e.state = .scheduled ∧ e.instant - 60 * e.lead ≤ now
    let commits := fun e : Entry => (opens e ∨ e.state = .announcing) ∧ e.instant - 60 ≤ now
    let takes := fun e : Entry => (opens e ∨ e.state = .announcing ∨ e.state = .committed) ∧ e.instant = now
    let ends := fun e : Entry => (e.state = .inEffect ∨ (takes e ∧ e.kind = .interruption)) ∧ e.outageEnd = now
    let missed := fun e : Entry => (e.kind = .leapInsert ∨ e.kind = .leapDelete) ∧ e.leapExecuted = false
    let passed := fun e : Entry =>
      if e.state = .withdrawn then none
      else if takes e ∧ e.kind ≠ .interruption then
        if e.autoRetire then none
        else some { e with state := .done, locked := e.locked || decide (opens e), outcome := some (if missed e then .overtaken else .onTime) }
      else if ends e then
        if e.autoRetire then none
        else some { e with state := .done, locked := e.locked || decide (takes e), outcome := some (if e.late then .overtaken else .onTime) }
      else if takes e then some { e with state := .inEffect, locked := true }
      else some { e with
        state := if commits e then .committed else if opens e then .announcing else e.state
        locked := e.locked || decide (opens e) }
    let t := s.boundaryPass now
    let released := fun c : Channel => c.state = .held .calendar ∧ ∃ e ∈ s.cal.entries, ends e ∧ c.heldBy = some e.ident
    t.cal.entries = s.cal.entries.filterMap passed ∧ t.cal.nextIdent = s.cal.nextIdent ∧
    t.cal.ring = (s.cal.ring.filter fun i => decide (∀ e ∈ s.cal.entries, e.ident = i → e.instant ≠ now)) ++
      ((s.cal.entries.filter fun e => decide (opens e ∧ e.instant ≠ now)).map Entry.ident) ∧
    (∀ k : Fin 4, t.profiles.get k = s.cal.entries.foldl (fun p e => match e.payload with
      | .offsetChange i o f => if i = k ∧ takes e then { p with offset := o, summer := f } else p
      | _ => p) (s.profiles.get k)) ∧
    t.att.flags.getLsbD 0 = (s.att.flags.getLsbD 0 || decide (∃ e ∈ s.cal.entries, opens e)) ∧
    t.att.flags.getLsbD 1 = (s.att.flags.getLsbD 1 || decide (∃ e ∈ s.cal.entries, takes e ∧ ¬missed e)) ∧
    t.att.flags.getLsbD 2 = (s.att.flags.getLsbD 2 || decide (∃ e ∈ s.cal.entries, ends e)) ∧
    t.att.flags.getLsbD 3 = (s.att.flags.getLsbD 3 || decide (∃ e ∈ s.cal.entries, takes e ∧ missed e)) ∧
    (∀ n : Fin 4,
      let c := s.chan n
      (t.chan n).arbiter = { c.arbiter with
        inService := if ∃ x ∈ c.arbiter.inService, ∃ e ∈ s.cal.entries, takes e ∧ e.ident = x.ident then none else c.arbiter.inService
        stack := c.arbiter.stack.filter fun x => decide (∀ e ∈ s.cal.entries, takes e → e.ident ≠ x.ident) } ∧
      (released c → c.history.length < 4 → (t.chan n).state = .resuming ∧ (t.chan n).history = c.history ++ [s.ret.runSeconds] ∧
        t.att.flags.getLsbD 5 = true ∧ ∀ u, s.tb.time = some u → (t.chan n).resumeStart = some ⟨u.minute, u.second, s.phase⟩) ∧
      (released c → 4 ≤ c.history.length →
        (t.chan n).state = c.state ∧ (t.chan n).heldBy = none ∧ (t.chan n).resumeDeferred = true ∧ (t.chan n).history = c.history) ∧
      (¬released c → (∀ e ∈ s.cal.entries, ends e → c.claim ≠ some e.ident) → t.chan n = { c with arbiter := (t.chan n).arbiter }) ∧
      (¬released c → (∃ e ∈ s.cal.entries, ends e ∧ c.claim = some e.ident) →
        t.chan n = { c with arbiter := (t.chan n).arbiter, claim := none, claimCancelled := true }))) ∧
  (∀ (u : UtcSecond) (s : State), s.running = true → s.tb.time = some u → (s.secondAfter u).second = 0 →
    (s.secondAfter u).minute < minutesKept → s.tb.sound →
    let v := s.secondAfter u
    ∃ t, exec .stationSecond s = .next t ∧ t.cal = ((s.askLeap u).boundaryPass v.minute).cal ∧
      t.profiles = ((s.askLeap u).boundaryPass v.minute).profiles ∧
      ∀ n : Fin 4, (s.chan n).state = .held .calendar → (s.chan n).resumeDeferred = true →
        ((s.chan n).history.length < 4 → (t.chan n).state = .resuming ∧ (t.chan n).resumeDeferred = false ∧
          (t.chan n).history = (s.chan n).history ++ [s.ret.runSeconds] ∧ (t.chan n).resumeStart = some ⟨v.minute, 0, 0⟩ ∧
          t.att.flags.getLsbD 5 = true) ∧
        (4 ≤ (s.chan n).history.length → (t.chan n).state = .held .calendar ∧ (t.chan n).resumeDeferred = true ∧
          (t.chan n).history = (s.chan n).history))

/-- The discontinuity procedure of SET TIME and of an adoption leaves every entry in the state its times give for the new station time (R72 to R75): a WITHDRAWN entry is removed and a DONE one stays; an entry whose instant is passed is taken into effect late, an OFFSET CHANGE with its profile effect: IN EFFECT with the late mark within its outage, else DONE, OVERTAKEN,
and removed with auto-retire; one IN EFFECT is DONE, OVERTAKEN after its outage, stays in it, and goes back before it, its channels released; one whose instant is to come takes the state its announce start and commit point give. No term changes. CHANGE OVERTAKEN and CHANGE ANNOUNCING are raised;
the ring keeps its order; the arbiters hold nothing; station time stays as it was placed. SET TIME runs it at the second it places (R15). That a LEAP entry taken late keeps its leap executed mark (log 43) and that the second cut short
asks no leap question (log 47) are the model's readings. -/
def Obligations.ProcedurePlacesEveryEntry : Prop :=
  (∀ (now : UtcSecond) (s : State), s.cal.sound → s.cal.marksFit → s.tb.time = some now →
    let ahead := fun e : Entry => e.state = .scheduled ∨ e.state = .announcing ∨ e.state = .committed
    let overtaken := fun e : Entry => (ahead e ∧ e.instant ≤ now.minute) ∨ (e.state = .inEffect ∧ e.outageEnd ≤ now.minute)
    let toCome := fun e : Entry => (ahead e ∨ e.state = .inEffect) ∧ now.minute < e.instant
    let stands := fun e : Entry =>
      if e.instant - 60 ≤ now.minute then EntryState.committed
      else if e.instant - 60 * e.lead ≤ now.minute then EntryState.announcing else EntryState.scheduled
    let joined := fun e : Entry => toCome e ∧ stands e ≠ .scheduled
    let placed := fun e : Entry =>
      if e.state = .withdrawn then none
      else if toCome e then some { e with
        state := stands e, locked := e.locked || decide (joined e), late := e.late && decide (ahead e)
        leapExecuted := e.leapExecuted && decide (now.second = 60 ∧ now.minute + 1 = e.instant) }
      else if overtaken e then
        if e.kind = .interruption ∧ now.minute < e.outageEnd then some { e with state := .inEffect, locked := true, late := true }
        else if e.autoRetire then none
        else some { e with state := .done, locked := true, outcome := some .overtaken }
      else some e
    let t := s.discontinuity none
    t.cal.entries = s.cal.entries.filterMap placed ∧ t.cal.nextIdent = s.cal.nextIdent ∧
    t.cal.ring = (s.cal.ring.filter fun i => decide (∃ e ∈ s.cal.entries, e.ident = i ∧ joined e)) ++
      ((s.cal.entries.filter fun e => decide (joined e ∧ e.ident ∉ s.cal.ring)).map Entry.ident) ∧
    (∀ k : Fin 4, t.profiles.get k = s.cal.entries.foldl (fun p e => match e.payload with
      | .offsetChange i o f => if i = k ∧ ahead e ∧ e.instant ≤ now.minute then { p with offset := o, summer := f } else p
      | _ => p) (s.profiles.get k)) ∧
    t.att.flags.getLsbD 3 = (s.att.flags.getLsbD 3 || decide (∃ e ∈ s.cal.entries, overtaken e)) ∧
    t.att.flags.getLsbD 0 = (s.att.flags.getLsbD 0 || decide (∃ e ∈ s.cal.entries, joined e ∧ e.ident ∉ s.cal.ring)) ∧
    (∀ n : Fin 4, (t.chan n).arbiter = { inService := none, stack := [], mark := (s.chan n).arbiter.mark } ∧
      ∀ e ∈ s.cal.entries, e.state = .inEffect → overtaken e ∨ toCome e → (s.chan n).state = .held .calendar → (s.chan n).heldBy = some e.ident →
        ((s.chan n).history.length < 4 → (t.chan n).state = .resuming ∧ (t.chan n).history = (s.chan n).history ++ [s.ret.runSeconds]) ∧
        (4 ≤ (s.chan n).history.length → (t.chan n).state = .held .calendar ∧ (t.chan n).heldBy = none ∧ (t.chan n).resumeDeferred = true)) ∧
    t.tb = s.tb) ∧
  (∀ (d : Nat) (y mo da h mi sec : Byte) (s : State), s.listens → s.cal.sound → s.cal.marksFit → s.tb.state ≠ .locked →
    (∀ n : Fin 4, (s.chan n).state ≠ .onAir ∧ (s.chan n).state ≠ .cued ∧ (s.chan n).state ≠ .resuming) →
    y.toNat ≤ 199 → 1 ≤ mo.toNat → mo.toNat ≤ 12 → 1 ≤ da.toNat → da.toNat ≤ monthLength (2000 + y.toNat) mo.toNat → h.toNat ≤ 23 →
    mi.toNat ≤ 59 → sec.toNat ≤ 59 →
    let now : UtcSecond := ⟨minuteOf (2000 + y.toNat) mo.toNat da.toNat h.toNat mi.toNat, sec.toNat⟩
    let moved : State := { s with tb := { s.tb with time := some now } }
    ∃ t, exec (.setTime (.of d [y, mo, da, h, mi, sec])) s = .next t ∧ t.tb.time = some now ∧
      t.cal = (moved.discontinuity none).cal ∧ t.profiles = (moved.discontinuity none).profiles)

/-- A locked entry keeps its kind, effective instant, lead and payload, and its mark, for as long as it remains in the calendar: no step changes them (R54). -/
def Obligations.LockedTermsStay : Prop :=
  ∀ s t : State, s.cal.sound → step s = .next t →
    ∀ e ∈ s.cal.entries, e.locked = true → ∀ x ∈ t.cal.entries, x.ident = e.ident →
      x.instant = e.instant ∧ x.lead = e.lead ∧ x.payload = e.payload ∧ x.locked = true

/-- Every step keeps the calendar sound: at most 32 entries in calendar order with different idents, the ring exactly the ANNOUNCING and COMMITTED entries, each once (R56, R58, R61). -/
def Obligations.CalendarStaysSound : Prop :=
  ∀ s t : State, s.cal.sound → step s = .next t → t.cal.sound

/-- Every step keeps the entries' marks fitting their states: only a SCHEDULED entry can be unlocked, an outcome stands exactly in DONE, only an INTERRUPTION is IN EFFECT (R54, R55, R70). -/
def Obligations.EntryMarksStayFit : Prop :=
  ∀ s t : State, s.cal.sound → s.cal.marksFit → step s = .next t → t.cal.marksFit

/-! ### Arbiters and frames -/

/-- After the arbiter's pass no free candidate is more urgent than the notice in service, which is a candidate; the stack holds candidates alone and at most four; something is in service exactly when there is a candidate (R105 to R111). By R109 a stacked record may be more urgent than the notice
in service. -/
def Obligations.NoFreeCandidateIsMoreUrgent : Prop :=
  ∀ (cands : List Candidate) (dwell : Nat) (a : Arbiter), (cands.map Candidate.ident).Nodup → a.stack.length ≤ 4 →
    (∀ c ∈ cands, c.level ≤ 7) →
    let b := a.chosen cands dwell
    b.stack.length ≤ 4 ∧ (∀ x ∈ b.stack, ∃ c ∈ cands, c.ident = x.ident) ∧
    (b.inService = none ↔ cands = []) ∧
    (∀ x ∈ b.inService, ∃ c ∈ cands, c.ident = x.ident ∧ ∀ f ∈ cands, b.holds f.ident = false → c.level ≤ f.level)

/-- Every frame keeps the table of section 8.2 (R121 to R124, R128): 60 symbols, 61 with an inserted second and 59 with a deleted one; F at second 0, M at seconds 20 and 40, Z at 59 and 60; each bit of each field at its second, least significant first, Z for 0 and O for 1, and Z throughout a suppressed segment;
and an even number of O among each parity second and the seconds it covers. -/
def Obligations.FramesKeepTheTable : Prop :=
  ∀ (code countdown : Nat) (doubt : Bool) (c : Civil) (summer : Bool) (leap : Option Kind) (zone identity : Nat) (mask : Mask),
    leap = none ∨ leap = some .leapInsert ∨ leap = some .leapDelete →
    let l := frameSymbols code countdown doubt c summer leap zone identity mask
    let even := fun ks : List Nat => (ks.countP fun k => l[k]? == some .o) % 2 = 0
    let keyed := fun (k : Nat) (b : Bool) => l[k]? = some (if b then .o else .z)
    let number := fun (first n v : Nat) (suppressed : Bool) => ∀ i < n, keyed (first + i) (v.testBit i && !suppressed)
    l.length = (match leap with | some .leapInsert => 61 | some .leapDelete => 59 | _ => 60) ∧
    l[0]? = some .f ∧ l[20]? = some .m ∧ l[40]? = some .m ∧
    (∀ x ∈ l[59]?, x = .z) ∧ (∀ x ∈ l[60]?, x = .z) ∧
    number 1 3 code mask.notice ∧ number 4 4 countdown mask.notice ∧ keyed 8 (doubt && !mask.notice) ∧
    number 10 4 (c.minute % 10) false ∧ number 14 3 (c.minute / 10 % 10) false ∧ keyed 18 summer ∧ keyed 19 leap.isSome ∧
    number 21 4 (c.hour % 10) false ∧ number 25 2 (c.hour / 10 % 10) false ∧
    number 28 4 (c.day % 10) mask.date ∧ number 32 2 (c.day / 10 % 10) mask.date ∧ number 34 3 c.weekday mask.date ∧
    number 38 2 zone false ∧
    number 41 4 (c.month % 10) mask.date ∧ number 45 1 (c.month / 10 % 10) mask.date ∧
    number 46 4 (c.year % 10) mask.date ∧ number 50 4 (c.year / 10 % 10) mask.date ∧
    number 55 4 identity mask.identity ∧
    (∀ k ∈ [9, 17, 27, 37, 54], l[k]? = some .z ∨ l[k]? = some .o) ∧
    even [1, 2, 3, 4, 5, 6, 7, 8, 9] ∧ even [10, 11, 12, 13, 14, 15, 16, 17] ∧ even [18, 19, 21, 22, 23, 24, 25, 26, 27] ∧
    even [28, 29, 30, 31, 32, 33, 34, 35, 36, 37] ∧ even [41, 42, 43, 44, 45, 46, 47, 48, 49, 50, 51, 52, 53, 54]

/-- At the composition instant each channel makes one decision for its next minute (R147): a channel that would not key it is left as it is; a claim comes first, then silence by the grade or the end of 2199, and otherwise a frame for that minute is staged (R129): its civil time, offset, flag and zone those of the linked profile
as it will stand at the labelled minute (R45, R126), its notice the one the arbiter's pass hands on (R104, R110, R116), none and the arbiter as it was under the NOTICE mask (R114), its symbols those of section 8.2. A channel that is not ON AIR begins from a clean arbiter record, its mark kept (R113, the place is the model's reading, log 42). The one decision replaces
a claim or decision still held of an earlier one, and where it composes nothing a staged frame stays (R129; a channel holds these only where a first-selection step jumped over its boundary, log 23). That the grade read is the one after the same second's evaluation (log 9) and that the 40 s of R153 count 60 seconds to a minute
(log 35), a resume start after the instant being not due (log 44), are the model's readings. -/
def Obligations.CompositionDecidesEachChannel : Prop :=
  ∀ (m : Nat) (s : State), s.running = true → s.tb.time = some ⟨m, 49⟩ → m < minutesKept →
    ∃ t, exec .stationSecond s = .next t ∧ ∀ n : Fin 4,
      let c := s.chan n
      let now := (m * 60 + 50) * 1000000
      let keys := (c.state = .onAir ∧ c.holdPending = false) ∨ c.state = .cued ∨ c.state = .quiet ∨
        (c.state = .resuming ∧ ∃ r ∈ c.resumeStart, (r.minute * 60 + r.second) * 1000000 + r.phase + 40000000 ≤ now)
      let silent := t.tb.grade = 6 ∨ c.cfg.silence ≤ t.tb.grade ∨ m + 1 = minutesKept
      let l := match c.cfg.mode with | .current => m + 1 | .forward => m + 2
      let p := s.profileAt c.cfg.link l
      let open_ := { c with claim := none, claimCancelled := false, quietDecided := false }
      let record : Arbiter := if c.state = .onAir then c.arbiter else { inService := none, stack := [], mark := c.arbiter.mark }
      let pass := record.chosen (s.candidates n l) c.cfg.dwell
      (¬keys → t.chan n = c) ∧
      (∀ id, keys → s.interruptionClaim n (m + 1) = some id → t.chan n = { open_ with claim := some id }) ∧
      (keys → s.interruptionClaim n (m + 1) = none → silent → t.chan n = { open_ with quietDecided := true }) ∧
      (keys → s.interruptionClaim n (m + 1) = none → ¬silent → ∃ f, (t.chan n).staged = some f ∧
        t.chan n = { open_ with staged := some f, arbiter := (t.chan n).arbiter } ∧ f.occupied = m + 1 ∧
        f.labelled = l ∧ f.mode = c.cfg.mode ∧
        f.grade = t.tb.grade ∧ f.doubt = decide (c.cfg.doubt ≤ t.tb.grade) ∧ f.identity = c.cfg.identity ∧ f.mask = c.cfg.mask ∧
        (c.cfg.mask.notice = true → f.notice = none ∧ (t.chan n).arbiter = record) ∧
        (c.cfg.mask.notice = false → f.notice = s.noticeOf pass l ∧ (t.chan n).arbiter = pass.carry) ∧
        f.offset = p.offset ∧ f.summer = p.summer ∧ f.zone = p.labelCode ∧ f.civil = civilOf ((l : Int) + 15 * p.offset) ∧
        f.leap = (s.frameLeap (m + 1)).isSome ∧
        f.symbols = frameSymbols (f.notice.elim 0 Notice.code) (f.notice.elim 0 Notice.countdown) f.doubt f.civil f.summer
          (s.frameLeap (m + 1)) f.zone f.identity f.mask)

/-! ### The channels -/

/-- CARRIER ON (R144) and CARRIER OFF (R154): the refusals in their order; an accepted CARRIER ON makes the channel CARRIER with its carrier asserted and adds the run second to its history; an accepted CARRIER OFF makes it OFF, its keying released, its frames, claim, decision and hold
fields gone, its history kept. The other channels and every other block stay, but for a measurement of the channel, which is aborted (R175): the meter IDLE, the result ABORTED with the samples counted, MEASUREMENT ENDED raised. -/
def Obligations.CarrierOnAndOff : Prop :=
  ∀ (d : Nat) (b : Byte) (n : Fin 4) (s : State), s.listens → n.val = b.toNat →
    let p := Period.of d [b]
    let c := s.chan n
    let unmeasured := ∀ w ∈ s.meter.working, w.channel ≠ n
    let aborted := fun t : State => ∀ w, s.meter.working = some w → w.channel = n →
      t.meter.working = none ∧ t.att.flags = s.att.flags ||| 0x0040 ∧ (∀ m, m ≠ n → t.meter.results.get m = s.meter.results.get m) ∧
      ∃ r, t.meter.results.get n = some r ∧ r.outcome = .aborted ∧ r.count = w.count ∧ r.applied = false
    (c.state ≠ .off → exec (.carrierOn p) s = .next { s.handed p with link := .working (.formed [0x41, 0x0D]) }) ∧
    (c.state = .off → 4 ≤ c.history.length →
      exec (.carrierOn p) s = .next { s.handed p with link := .working (.formed [0x41, 0x0F]) }) ∧
    (c.state = .off → c.history.length < 4 → ∃ t, exec (.carrierOn p) s = .next t ∧
      t = { s.handed p with chans := t.chans, meter := t.meter, att := { s.att with flags := t.att.flags }, link := .working (.formed [0x41, 0x00]) } ∧
      (∀ m, m ≠ n → t.chan m = s.chan m) ∧ t.carrierPin n = true ∧
      t.chan n = { c with
        state := .carrier, key := false, keyPlan := [], heldBy := none, heldSince := none, resumeDeferred := false, resumeStart := none
        history := c.history ++ [s.ret.runSeconds] } ∧
      (unmeasured → t.meter = s.meter ∧ t.att = s.att) ∧ aborted t) ∧
    (c.state = .off ∨ c.state = .faulted →
      exec (.carrierOff p) s = .next { s.handed p with link := .working (.formed [0x45, 0x0D]) }) ∧
    (c.state ≠ .off → c.state ≠ .faulted → ∃ t, exec (.carrierOff p) s = .next t ∧
      t = { s.handed p with chans := t.chans, meter := t.meter, att := { s.att with flags := t.att.flags }, link := .working (.formed [0x45, 0x00]) } ∧
      (∀ m, m ≠ n → t.chan m = s.chan m) ∧ t.carrierPin n = false ∧
      t.chan n = { c with
        state := .off, key := false, keyPlan := [], heldBy := none, heldSince := none, resumeDeferred := false, resumeStart := none
        holdPending := false, claim := none, claimCancelled := false, quietDecided := false, staged := none, onAir := none } ∧
      (unmeasured → t.meter = s.meter ∧ t.att = s.att) ∧ aborted t)

/-- CLEAR FAULT (R157): in FAULTED with the fault condition INACTIVE the channel becomes OFF, the reply is DONE and no CHANNEL EVENT is raised; STILL FAULTED with the condition ACTIVE; WRONG STATE in every other state. A channel cleared whose condition becomes ACTIVE again, its line high for 10 ms, becomes FAULTED. How the line is told, and what an earlier telling says of it, is the model's choice (log 29). -/
def Obligations.ClearFaultClears : Prop :=
  ∀ (d : Nat) (b : Byte) (n : Fin 4) (s : State), s.listens → n.val = b.toNat → (∀ w ∈ s.meter.working, w.channel ≠ n) →
    let p := Period.of d [b]
    let c := s.chan n
    let us := if s.tb.fselHigh then 10 else 5
    (c.state ≠ .faulted → exec (.clearFault p) s = .next { s.handed p with link := .working (.formed [0x46, 0x0D]) }) ∧
    (c.state = .faulted → c.fault = true →
      exec (.clearFault p) s = .next { s.handed p with link := .working (.formed [0x46, 0x12]) }) ∧
    (c.state = .faulted → c.fault = false → ∃ t, exec (.clearFault p) s = .next t ∧
      t = { s.handed p with chans := t.chans, link := .working (.formed [0x46, 0x00]) } ∧ (∀ m, m ≠ n → t.chan m = s.chan m) ∧
      t.chan n = { c with
        state := .off, key := false, keyPlan := [], heldBy := none, heldSince := none, resumeDeferred := false, resumeStart := none } ∧
      (∀ e stood, 10000 ≤ stood → (if c.faultLine.high then c.faultLine.since else c.faultLine.seen) + 10000 * us ≤ s.fin + d + e →
        ∃ u, exec (.faultActive e ⟨n, stood⟩) t = .next u ∧ (u.chan n).state = .faulted))

/-- GO ON AIR (R145): WRONG STATE outside CARRIER; GRADE TOO LOW when the grade is 6 or at or above the silence level; otherwise the channel is CUED with its carrier kept on and no carrier-on event. -/
def Obligations.GoOnAirCues : Prop :=
  ∀ (d : Nat) (b : Byte) (n : Fin 4) (s : State), s.listens → n.val = b.toNat →
    let p := Period.of d [b]
    let c := s.chan n
    (c.state ≠ .carrier → exec (.goOnAir p) s = .next { s.handed p with link := .working (.formed [0x42, 0x0D]) }) ∧
    (c.state = .carrier → s.tb.grade = 6 ∨ c.cfg.silence ≤ s.tb.grade →
      exec (.goOnAir p) s = .next { s.handed p with link := .working (.formed [0x42, 0x13]) }) ∧
    (c.state = .carrier → s.tb.grade ≠ 6 → s.tb.grade < c.cfg.silence → ∃ t, exec (.goOnAir p) s = .next t ∧
      t = { s.handed p with chans := t.chans, meter := t.meter, att := { s.att with flags := t.att.flags }, link := .working (.formed [0x42, 0x00]) } ∧
      (∀ m, m ≠ n → t.chan m = s.chan m) ∧ t.carrierPin n = true ∧
      t.chan n = { c with
        state := .cued, key := false, keyPlan := [], heldBy := none, heldSince := none, resumeDeferred := false, resumeStart := none } ∧
      ((∀ w ∈ s.meter.working, w.channel ≠ n) → t.meter = s.meter ∧ t.att = s.att) ∧
      (∀ w, s.meter.working = some w → w.channel = n → t.meter.working = none ∧ t.att.flags = s.att.flags ||| 0x0040 ∧
        ∃ r, t.meter.results.get n = some r ∧ r.outcome = .aborted ∧ r.count = w.count ∧ r.applied = false))

/-- HOLD (R151): on an ON AIR channel without hold pending it sets hold pending and discards the staged frame, the claim and the QUIET decision, the on-air frame going on; in CUED, QUIET and RESUMING the channel is HELD(HOST) at once with held since the current run second; WRONG STATE otherwise. -/
def Obligations.HoldTakesOffTheAir : Prop :=
  ∀ (d : Nat) (b : Byte) (n : Fin 4) (s : State), s.listens → n.val = b.toNat →
    let p := Period.of d [b]
    let c := s.chan n
    (c.state = .onAir → c.holdPending = false →
      exec (.hold p) s = .next { s.handed p with
        chans := s.chans.set n { c with staged := none, holdPending := true, claim := none, claimCancelled := false, quietDecided := false }
        link := .working (.formed [0x43, 0x00]) }) ∧
    (c.state = .cued ∨ c.state = .quiet ∨ c.state = .resuming → ∃ t, exec (.hold p) s = .next t ∧
      t = { s.handed p with chans := t.chans, meter := t.meter, att := { s.att with flags := t.att.flags }, link := .working (.formed [0x43, 0x00]) } ∧
      (∀ m, m ≠ n → t.chan m = s.chan m) ∧ t.carrierPin n = false ∧
      t.chan n = { c with
        state := .held .host, heldSince := some s.ret.runSeconds, heldBy := none, resumeDeferred := false, resumeStart := none
        key := false, keyPlan := [], staged := none, holdPending := false, claim := none, claimCancelled := false, quietDecided := false } ∧
      ((∀ w ∈ s.meter.working, w.channel ≠ n) → t.meter = s.meter ∧ t.att = s.att)) ∧
    ((c.state = .onAir ∧ c.holdPending = true) ∨ c.state = .off ∨ c.state = .carrier ∨ (∃ r, c.state = .held r) ∨ c.state = .faulted →
      exec (.hold p) s = .next { s.handed p with link := .working (.formed [0x43, 0x0D]) })

/-- RESUME (R152): WRONG STATE unless HELD; CALENDAR HOLD when the reason is CALENDAR; HOLD TOO SHORT before 120 run seconds; SWITCH LIMIT with the budget spent; otherwise the channel is RESUMING with its carrier on, the hold fields cleared, the resume start now and the run second in its history. -/
def Obligations.ResumeAfterTheHold : Prop :=
  ∀ (d : Nat) (b : Byte) (n : Fin 4) (since : RunSec) (s : State), s.listens → n.val = b.toNat → (s.chan n).fieldsFit →
    let p := Period.of d [b]
    let c := s.chan n
    ((∀ r, c.state ≠ .held r) → exec (.resume p) s = .next { s.handed p with link := .working (.formed [0x44, 0x0D]) }) ∧
    (c.state = .held .calendar → exec (.resume p) s = .next { s.handed p with link := .working (.formed [0x44, 0x11]) }) ∧
    (c.state = .held .host → c.heldSince = some since → (s.ret.runSeconds - since).toNat < 120 →
      exec (.resume p) s = .next { s.handed p with link := .working (.formed [0x44, 0x10]) }) ∧
    (c.state = .held .host → c.heldSince = some since → 120 ≤ (s.ret.runSeconds - since).toNat → 4 ≤ c.history.length →
      exec (.resume p) s = .next { s.handed p with link := .working (.formed [0x44, 0x0F]) }) ∧
    (c.state = .held .host → c.heldSince = some since → 120 ≤ (s.ret.runSeconds - since).toNat → c.history.length < 4 →
      ∃ t start, exec (.resume p) s = .next t ∧
        t = { s.handed p with chans := t.chans, meter := t.meter, att := { s.att with flags := t.att.flags }, link := .working (.formed [0x44, 0x00]) } ∧
        (∀ m, m ≠ n → t.chan m = s.chan m) ∧ t.carrierPin n = true ∧
        (∀ u, s.tb.time = some u → start = ⟨u.minute, u.second, (s.handed p).phase⟩) ∧
        t.chan n = { c with
          state := .resuming, heldSince := none, heldBy := none, resumeDeferred := false, resumeStart := some start, key := false, keyPlan := []
          history := c.history ++ [s.ret.runSeconds] } ∧
        ((∀ w ∈ s.meter.working, w.channel ≠ n) → t.meter = s.meter ∧ t.att = s.att))

/-- CONFIGURE CHANNEL (R141) with every field in its values and a DEFINED profile: WRONG STATE when an in-service channel would change its profile link or label mode; otherwise the eight fields are written and the drive advance becomes the pending advance; a repeat of every value held
changes nothing (the model's reading, log 24). When the link changes, the entries whose scope no longer holds the channel leave
its arbiter's slot and stack, the rest keep their order and the mark stays (R53, R103; that they leave at this request is the model's reading, log 41). BAD PARAMETER for a field outside its values, a doubt level above the silence level, or an UNUSED profile. -/
def Obligations.ConfigureChannelWrites : Prop :=
  ∀ (d : Nat) (b link mode ident dwell doubt silence mask d2 d1 d0 : Byte) (s : State), s.listens →
    let p := Period.of d [b, link, mode, ident, dwell, doubt, silence, mask, d2, d1, d0]
    let drive := (d2.toNat * 256 + d1.toNat) * 256 + d0.toNat
    let legal := b.toNat ≤ 3 ∧ link.toNat ≤ 3 ∧ mode.toNat ≤ 1 ∧ ident.toNat ≤ 15 ∧ 1 ≤ dwell.toNat ∧ dwell.toNat ≤ 15 ∧ 1 ≤ doubt.toNat ∧
      doubt.toNat ≤ silence.toNat ∧ silence.toNat ≤ 6 ∧ mask.toNat ≤ 7 ∧ drive ≤ 50000
    let refused := fun code : Byte => exec (.configureChannel p) s = .next { s.handed p with link := .working (.formed [0x40, code]) }
    (¬legal → refused 3) ∧
    (legal → ∀ n k : Fin 4, n.val = b.toNat → k.val = link.toNat →
      let c := s.chan n
      let cfg : ChannelConfig := {
        link := k, mode := if mode.toNat = 0 then .forward else .current, identity := ident.toNat, dwell := dwell.toNat, doubt := doubt.toNat
        silence := silence.toNat, mask := ⟨mask.getLsbD 0, mask.getLsbD 1, mask.getLsbD 2⟩, drive := drive }
      let inScope := fun x : Slot => s.cal.entries.any fun e => e.ident == x.ident && (match e.payload with
        | .offsetChange target _ _ => target == k
        | .leapInsert | .leapDelete => true
        | .interruption set _ | .advisory set _ => set.getLsbD n)
      let fixed := c.state.inService = true ∧ (c.cfg.link ≠ cfg.link ∨ c.cfg.mode ≠ cfg.mode)
      ((s.profiles.get k).defined = false → refused 3) ∧
      ((s.profiles.get k).defined = true → fixed → refused 13) ∧
      ((s.profiles.get k).defined = true → ¬fixed → exec (.configureChannel p) s = .next { s.handed p with
        chans := s.chans.set n (if cfg = c.cfg then c else { c with
          cfg := cfg, pendingAdvance := some drive
          arbiter := if k = c.cfg.link then c.arbiter else { c.arbiter with
            inService := c.arbiter.inService.filter inScope, stack := c.arbiter.stack.filter inScope } })
        link := .working (.formed [0x40, 0x00]) }))

/-- READ CHANNEL replies DONE with the channel's configuration, state, hold fields, claim, history, arbiter record and on-air frame summary as the model's fields give them, and changes nothing but the link; a channel request with a number above 3 is refused BAD PARAMETER
(R143, R166). -/
def Obligations.ReadChannelReports : Prop :=
  (∀ (d : Nat) (b : Byte) (n : Fin 4) (s : State), s.listens → n.val = b.toNat →
    let p := Period.of d [b]
    let c := s.chan n
    ∃ tail : List Byte, exec (.readChannel p) s = .next { s.handed p with link := .working (.formed ([0x47, 0x00] ++
        (be8 c.cfg.link ++ be8 c.cfg.mode.code ++ be8 c.cfg.identity ++ be8 c.cfg.dwell ++ be8 c.cfg.doubt ++ be8 c.cfg.silence ++
          be8 c.cfg.mask.code ++ be24 c.cfg.drive) ++
        be8 c.state.code ++ beIdent c.heldBy ++ beRun c.heldSince ++ beBool c.holdPending ++ beBool c.resumeDeferred ++ beIdent c.claim ++
        beHistory c.history ++ c.arbiter.bytes ++ tail)) } ∧
      (c.onAir = none → tail = List.replicate 32 0) ∧ (∀ f, c.onAir = some f → tail = frameSummary (some f))) ∧
  (∀ (d : Nat) (b code : Byte) (c : Instr) (s : State), s.listens → 4 ≤ b.toNat → c.request? = some (code, .of d [b]) →
    code ∈ ([0x41, 0x42, 0x43, 0x44, 0x45, 0x46, 0x47] : List Byte) → c.wellFormed = true →
    exec c s = .next { s.handed (.of d [b]) with link := .working (.formed [code, 0x03]) })

/-- FAULT_ACTIVE and FAULT_INACTIVE tell that CHn_FAULT has stood at its level for `stood` microseconds. Once that is 10 ms without a break, counted from the start at the earliest, the condition is ACTIVE or INACTIVE (R155); before, only the level is noted. ACTIVE makes a channel that is not FAULTED FAULTED at once: carrier and keying released, frames, claim, decision, hold and resume fields gone,
the arbiter emptied with its mark kept, the history kept, CHANNEL EVENT raised; on a FAULTED channel it only marks the condition (R156). How the line is told, and what an earlier telling says of it, is the model's choice (log 29). -/
def Obligations.FaultsTakeTheChannel : Prop :=
  ∀ (d : Nat) (n : Fin 4) (stood : Nat) (s : State), s.running = true →
    let c := s.chan n
    let us := if s.tb.fselHigh then 10 else 5
    let known := fun high : Bool => if c.faultLine.high = high then c.faultLine.since else c.faultLine.seen
    let line := fun high : Bool =>
      ({ high := high, since := max (known high) (s.fin + d - stood * us), seen := s.fin + d } : FaultLine)
    let settled := fun high : Bool => 10000 ≤ stood ∧ known high + 10000 * us ≤ s.fin + d
    (settled true → c.fault = false → c.state ≠ .faulted → ∃ t, exec (.faultActive d ⟨n, stood⟩) s = .next t ∧
      t = { s.elapse d with chans := t.chans, meter := t.meter, att := { s.att with flags := t.att.flags } } ∧
      (∀ m, m ≠ n → t.chan m = s.chan m) ∧ t.carrierPin n = false ∧ t.att.flags &&& 0x0020 ≠ 0 ∧
      t.chan n = { c with
        state := .faulted, fault := true, faultLine := line true, key := false, keyPlan := [], heldBy := none, heldSince := none
        resumeDeferred := false, resumeStart := none, holdPending := false, claim := none, claimCancelled := false, quietDecided := false
        staged := none, onAir := none, arbiter := { inService := none, stack := [], mark := c.arbiter.mark } }) ∧
    (settled true → c.fault = false → c.state = .faulted →
      exec (.faultActive d ⟨n, stood⟩) s =
        .next { s.elapse d with chans := s.chans.set n { c with fault := true, faultLine := line true } }) ∧
    (¬settled true ∨ c.fault = true →
      exec (.faultActive d ⟨n, stood⟩) s = .next { s.elapse d with chans := s.chans.set n { c with faultLine := line true } }) ∧
    (settled false →
      exec (.faultInactive d ⟨n, stood⟩) s =
        .next { s.elapse d with chans := s.chans.set n { c with fault := false, faultLine := line false } }) ∧
    (¬settled false →
      exec (.faultInactive d ⟨n, stood⟩) s = .next { s.elapse d with chans := s.chans.set n { c with faultLine := line false } })

/-- CHANNEL_SECOND_START of a second other than 0 (R119, R120, R136, R171): the label that follows is decided, a pending advance is taken at the minute's last second, an ON AIR channel keys its frame's symbol for the second, a channel measured in CARRIER keys the 20 ms
test pulse, and every other channel keys nothing. KEYING_TIMED_CHANGE carries out the next change of the symbol at its time. That the commands move the clock to their moments is the model's choice (log 2). That the lengths are counted in microseconds of FIN (log 5) and where a channel second begins and what label follows it (log 23) are the model's readings. -/
def Obligations.ChannelSecondsKeySymbols : Prop :=
  (∀ (n : Fin 4) (v : UtcSecond) (s : State), s.running = true → (s.chan n).nextSecond = some v → v.second ≠ 0 →
    let c := s.chan n
    let us := if s.tb.fselHigh then 10 else 5
    let last := (s.secondAfter v).second = 0
    let measured := ∃ w ∈ s.meter.working, w.channel = n
    ∃ t, exec (.channelSecondStart n) s = .next t ∧
      t = { s with fin := t.fin, tb := { s.tb with elapsed := t.tb.elapsed }, chans := t.chans, meter := { s.meter with working := t.meter.working } } ∧
      t.fin - s.fin = t.tb.elapsed - s.tb.elapsed ∧ (s.tb.time = some v → t.fin = s.fin) ∧
      (s.tb.time ≠ some v → s.tb.elapsed ≤ s.tb.length - c.inForce * us → t.tb.elapsed = s.tb.length - c.inForce * us) ∧
      (∀ m, m ≠ n → t.chan m = s.chan m) ∧
      t.chan n = { c with
        nextSecond := some (s.secondAfter v), inForce := if last then c.pendingAdvance.getD c.inForce else c.inForce
        pendingAdvance := if last then none else c.pendingAdvance, key := (t.chan n).key, keyPlan := (t.chan n).keyPlan } ∧
      (∀ (f : Frame) (x : Symbol), c.state = .onAir → c.onAir = some f → f.symbols[v.second]? = some x →
        (t.chan n).key = true ∧ (t.chan n).keyPlan = (match x with
          | .z => [⟨t.fin + 150000 * us, false⟩]
          | .o => [⟨t.fin + 300000 * us, false⟩]
          | .m => [⟨t.fin + 600000 * us, false⟩]
          | .f => [⟨t.fin + 150000 * us, false⟩, ⟨t.fin + 300000 * us, true⟩, ⟨t.fin + 450000 * us, false⟩])) ∧
      (c.state = .carrier → measured → (t.chan n).key = true ∧ (t.chan n).keyPlan = [⟨t.fin + 20000 * us, false⟩]) ∧
      ((c.state = .carrier ∧ ¬measured) ∨ (c.state ≠ .carrier ∧ c.state ≠ .onAir) → (t.chan n).key = false ∧ (t.chan n).keyPlan = []) ∧
      (¬measured → t.meter = s.meter) ∧
      (∀ w, s.meter.working = some w → w.channel = n → t.meter.working = some { w with window := some t.fin, sample := none })) ∧
  (∀ (n : Fin 4) (s : State), s.running = true →
    ((s.chan n).keyPlan = [] → exec (.keyingTimedChange n) s = .next s) ∧
    (∀ (x : KeyChange) (rest : List KeyChange), (s.chan n).keyPlan = x :: rest →
      exec (.keyingTimedChange n) s =
        .next { s.elapse (x.due - s.fin) with chans := s.chans.set n { s.chan n with key := x.level, keyPlan := rest } }))

/-- CHANNEL_SECOND_START of second 0 carries out what the channel holds (R134, R148, R161): a staged frame goes on air and its F is keyed; a QUIET decision makes the channel QUIET; hold pending makes it HELD(HOST); a claim makes it HELD(CALENDAR) by that entry; a cancelled claim makes it CUED; CUED, RESUMING and QUIET with none of these
stay. A frame left staged beside a later claim or decision, its own boundary jumped over by a step, is deleted and not keyed (the model's reading, log 23). The ended frame is deleted, and the arbiter is emptied unless the channel is ON AIR (R113). -/
def Obligations.ChannelBoundaryCarriesOut : Prop :=
  ∀ (n : Fin 4) (v : UtcSecond) (s : State), s.running = true → (s.chan n).nextSecond = some v → v.second = 0 →
    let c := s.chan n
    let noFrame := fun t : State => (t.chan n).onAir = none ∧ (t.chan n).key = false ∧
      (t.chan n).arbiter = { inService := none, stack := [], mark := c.arbiter.mark }
    let since := some s.ret.runSeconds
    let later := c.quietDecided = true ∨ c.claim ≠ none ∨ c.claimCancelled = true
    ∃ t, exec (.channelSecondStart n) s = .next t ∧ t.pending = s.pending ∧ t.cal = s.cal ∧ t.ret = s.ret ∧ (∀ m, m ≠ n → t.chan m = s.chan m) ∧
      (t.chan n).staged = none ∧ (t.chan n).holdPending = false ∧ (t.chan n).claim = none ∧ (t.chan n).quietDecided = false ∧
      (t.chan n).cfg = c.cfg ∧ (t.chan n).history = c.history ∧
      (s.att.flags &&& 0x0020 = 0 → (t.chan n).state ≠ c.state → t.att.flags &&& 0x0020 ≠ 0) ∧
      (∀ f, c.staged = some f → ¬later → (t.chan n).state = .onAir ∧ (t.chan n).onAir = some f ∧ (f.symbols[0]? = some .f → (t.chan n).key = true)) ∧
      (c.quietDecided = true → (t.chan n).state = .quiet ∧ noFrame t) ∧
      (c.staged = none ∨ later → c.quietDecided = false → c.holdPending = true →
        (t.chan n).state = .held .host ∧ (t.chan n).heldSince = since ∧ noFrame t) ∧
      (∀ id, c.quietDecided = false → c.holdPending = false → c.claim = some id →
        (t.chan n).state = .held .calendar ∧ (t.chan n).heldBy = some id ∧ (t.chan n).heldSince = since ∧ noFrame t) ∧
      (c.quietDecided = false → c.holdPending = false → c.claim = none → c.claimCancelled = true →
        (t.chan n).state = .cued ∧ noFrame t) ∧
      (c.staged = none → c.quietDecided = false → c.holdPending = false → c.claim = none → c.claimCancelled = false →
        c.state = .cued ∨ c.state = .resuming ∨ c.state = .quiet → (t.chan n).state = c.state ∧ noFrame t)

/-- HISTORY_TIME_EXPIRY: the times that are 1,800 run seconds old leave the channel's carrier-on history, the younger ones stay in their order, and nothing else changes (R163). -/
def Obligations.HistoryTimesExpire : Prop :=
  ∀ (n : Fin 4) (s : State), s.running = true →
    exec (.historyTimeExpiry n) s = .next { s with chans := s.chans.set n { s.chan n with
      history := (s.chan n).history.filter fun t => decide ((s.ret.runSeconds - t).toNat < 1800) } }

/-! ### The Delay Meter -/

/-- MEASURE DELAY (R170): BAD PARAMETER, METER BUSY, WRONG STATE in this order; otherwise the meter is MEASURING with a fresh working record and DONE is formed. READ MEASUREMENT returns the meter's state and the named channel's result record (R176). Nothing else changes. -/
def Obligations.MeterRequests : Prop :=
  (∀ (d : Nat) (b mode apply : Byte) (s : State), s.listens →
    let p := Period.of d [b, mode, apply]
    let good := b.toNat ≤ 3 ∧ mode.toNat ≤ 1 ∧ apply.toNat ≤ 1
    let refused := fun code : Byte => exec (.measureDelay p) s = .next { s.handed p with link := .working (.formed [0x48, code]) }
    (¬good → refused 3) ∧
    (good → s.meter.working ≠ none → refused 20) ∧
    (good → s.meter.working = none → ∀ n : Fin 4, n.val = b.toNat →
      let ready := ((s.chan n).state = .carrier ∨ (s.chan n).state = .onAir) ∧ s.tb.state ≠ .unset
      (¬ready → refused 13) ∧
      let w : Working := { channel := n, long := decide (mode.toNat = 1), apply := decide (apply.toNat = 1), taken := 0, count := 0, sum := 0
                           least := none, greatest := none, window := none, sample := none }
      (ready → exec (.measureDelay p) s = .next { s.handed p with
        meter := { s.meter with working := some w }
        link := .working (.formed [0x48, 0x00]) }))) ∧
  (∀ (d : Nat) (b : Byte) (s : State), s.listens →
    let p := Period.of d [b]
    let flight : List Byte := match s.meter.working with
      | none => [0, 0xFF, 0]
      | some w => [1] ++ be8 w.channel ++ be8 w.taken
    (4 ≤ b.toNat → exec (.readMeasurement p) s = .next { s.handed p with link := .working (.formed [0x49, 0x03]) }) ∧
    (∀ n : Fin 4, n.val = b.toNat →
      let result : List Byte := match s.meter.results.get n with
        | none => [0, 0, 0, 0, 0, 0, 0, 0, 0, 0]
        | some r => be8 r.outcome.code ++ beBool r.long ++ be8 r.count ++ be24 r.mean ++ be24 r.spread ++ beBool r.applied
      exec (.readMeasurement p) s = .next { s.handed p with link := .working (.formed ([0x49, 0x00] ++ flight ++ result)) }))

/-- MONITOR_EDGE: the first falling edge inside the open window of the measured channel gives the sample, its whole microseconds from the window's start; other edges give none (R172). SAMPLE_WINDOW_CLOSE takes the sample into the record 100 ms after the window's start; the last window ends the
measurement with the outcome, the mean and the spread of R173, applies a VALID one when asked (R174), makes the meter IDLE and raises MEASUREMENT ENDED. That the command moves the clock to the window's close (log 2), that sample and window are counted in microseconds of FIN, a sample rounded down (log 5), and that a sample counts below 100,000 (log 30) are the model's choices. -/
def Obligations.SamplesMakeTheResult : Prop :=
  (∀ (d : Nat) (n : Fin 4) (edge : Edge) (s : State), s.running = true →
    let us := if s.tb.fselHigh then 10 else 5
    ∃ t, exec (.monitorEdge d n edge) s = .next t ∧
      t = { s.elapse d with
        chans := s.chans.set n { s.chan n with monitorHigh := decide (edge = .rising) }, meter := { s.meter with working := t.meter.working } } ∧
      (edge = .rising ∨ (∀ w ∈ s.meter.working, w.channel ≠ n ∨ w.window = none ∨ w.sample ≠ none) → t.meter = s.meter) ∧
      (∀ w start, edge = .falling → s.meter.working = some w → w.channel = n → w.window = some start → w.sample = none →
        t.meter.working = some { w with
          sample := if (s.fin + d - start) / us < 100000 then some ((s.fin + d - start) / us) else none })) ∧
  (∀ (w : Working) (start : Nat) (s : State), s.running = true → s.meter.working = some w → w.window = some start →
    let us := if s.tb.fselHigh then 10 else 5
    let total := if w.long then 64 else 8
    let needed := if w.long then 48 else 6
    let count := w.count + (if w.sample.isSome then 1 else 0)
    let sum := w.sum + w.sample.getD 0
    let least := match w.sample with | none => w.least | some v => some (match w.least with | none => v | some x => min x v)
    let greatest := match w.sample with | none => w.greatest | some v => some (match w.greatest with | none => v | some x => max x v)
    let mean := if count = 0 then 0 else (2 * sum + count) / (2 * count)
    let valid := needed ≤ count ∧ mean ≤ 50000
    ∃ t, exec .sampleWindowClose s = .next t ∧ t.fin = s.fin + (start + 100000 * us - s.fin) ∧ t.pending = s.pending ∧ t.cal = s.cal ∧
      (∀ m, m ≠ w.channel → t.chan m = s.chan m) ∧
      (w.taken + 1 < total → t.chans = s.chans ∧ t.att = s.att ∧ t.meter = { s.meter with working := some { w with
        taken := w.taken + 1, count := count, sum := sum, least := least, greatest := greatest, window := none, sample := none } }) ∧
      (total ≤ w.taken + 1 → t.meter.working = none ∧ t.att.flags = s.att.flags ||| 0x0040 ∧
        t.meter.results = s.meter.results.set w.channel (some
          { outcome := if valid then .valid else .noReturn, long := w.long, count := count, mean := mean
            spread := greatest.getD 0 - least.getD 0, applied := decide (valid ∧ w.apply = true) }) ∧
        (¬(valid ∧ w.apply = true) → t.chans = s.chans) ∧
        (valid → w.apply = true → (s.chan w.channel).state = .carrier → t.chan w.channel = { s.chan w.channel with
          cfg := { (s.chan w.channel).cfg with drive := mean }, inForce := mean, pendingAdvance := none }) ∧
        (valid → w.apply = true → (s.chan w.channel).state ≠ .carrier → t.chan w.channel = { s.chan w.channel with
          cfg := { (s.chan w.channel).cfg with drive := mean }, pendingAdvance := some mean })))

/-! ### Supplies and starts -/

/-- VDD_LOSS and RESET_N_LOW in a part that runs are loss moments (R179, R180): every carrier and every keying output is released, READY is low, ATTN_N high, the loss record holds station time and the run seconds with their fraction, and every retained record stays. VDD_LOSS clears the validity marker when VBAT is low (R181).
In a part already stopped neither writes the loss record. VBAT_LOW clears the marker while VDD is absent. -/
def Obligations.LossMomentReleasesEverything : Prop :=
  ∀ (d : Nat) (q : Ticks) (good : Bool) (s : State),
    let lost := fun t : State => (∀ n : Fin 4, t.carrierPin n = false ∧ (t.chan n).key = false) ∧ t.ready = false ∧ t.attnN = true ∧
      t.running = false ∧ t.cal = s.cal ∧ t.profiles = s.profiles ∧ t.pending = s.pending ∧
      (∀ n : Fin 4, (t.chan n).cfg = (s.chan n).cfg ∧ (t.chan n).history = (s.chan n).history) ∧ t.mon.revertive = s.mon.revertive ∧
      (∀ r, (t.ref r).enabled = (s.ref r).enabled ∧ (t.ref r).polarity = (s.ref r).polarity ∧ (t.ref r).priority = (s.ref r).priority) ∧
      t.ret.runSeconds = s.ret.runSeconds ∧ t.ret.century = s.ret.century ∧
      (s.ret.loss = none → t.ret.loss = some
        { time := s.tb.time.map fun u => ⟨u.minute, u.second, (s.elapse d).phase⟩, run := s.ret.runSeconds, fraction := q })
    (s.running = true → ∃ t, exec (.vddLoss d q good) s = .next t ∧ t.vdd = false ∧ t.resetN = true ∧
      t.ret.marker = (s.ret.marker && good) ∧ lost t) ∧
    (s.running = true → ∃ t, exec (.resetNLow d q) s = .next t ∧ t.vdd = true ∧ t.resetN = false ∧ t.ret.marker = s.ret.marker ∧ lost t) ∧
    (s.running = false → ∃ t, exec (.vddLoss d q good) s = .next t ∧ t.ret.loss = s.ret.loss) ∧
    (s.running = false → ∃ t, exec (.resetNLow d q) s = .next t ∧ t.ret.loss = s.ret.loss) ∧
    exec .vbatLow s = .next { s with vbatGood := false, ret := { s.ret with marker := s.ret.marker && s.vdd } }

/-- POWER_UP with the validity marker clear is a cold start: every block at its cold values, START set with kind COLD and every cause enabled, the marker set, run seconds from 0; the queue, the pins and SDO's last bytes stay (R17, R36, R47, R77, R118, R139, R167, R177, R184, R187). While RESET_N is low the start waits (R182). -/
def Obligations.PowerUpCold : Prop :=
  ∀ (q : Ticks) (high : Bool) (s : State), s.vdd = false → s.ret.marker = false →
    (s.resetN = true → exec (.powerUp q high) s = .next
      { State.reset with
        pending := s.pending, vdd := true, resetN := true, vbatGood := s.vbatGood, fselPin := high, sdo := s.sdo
        tb := { State.reset.tb with fselHigh := high, length := if high then 10000000 else 5000000 }
        ret := { State.reset.ret with fraction := q }
        chans := s.chans.map fun c => { State.reset.chans.c0 with
          monitorHigh := c.monitorHigh, faultLine := { high := c.faultLine.high, since := 0, seen := 0 } } }) ∧
    (s.resetN = false → exec (.powerUp q high) s = .next { s with vdd := true, fselPin := high })

/-- A warm start, by POWER_UP or RESET_N_RELEASE with the marker set or by RESET PART (R18, R37, R48, R78, R118, R168, R177, R183, R185, R187): every channel OFF with its configuration and the history younger than 1,800 run seconds, the references restarted with their configuration and the revertive flag, the meter IDLE, the link IDLE, START set with kind WARM and with
CHANGE OVERTAKEN at most beside it, every cause enabled, the loss record cleared and the marker set. Without station time at loss the timebase is UNSET, the century, the profiles and every entry not WITHDRAWN come back as they were. Otherwise station time goes on by the run seconds that passed, FREE with grade 5, the century that of its year, and the calendar and the profiles
come back as the discontinuity procedure leaves them; the only LEAP entry whose second fell in the gap moves it by one second (R76). That the sum counts 60 seconds to every minute is the model's reading (log 35). A moment past 2199 and a fraction other than that at loss are not spoken of (logs 15, 22).
The premise of RESET PART on LEAP INSERT entries holds in every state that a run reaches, for their instants are month ends (R81). -/
def Obligations.WarmStartBringsBack : Prop :=
  let warm := fun (s t : State) => t.att.startKind = some .warm ∧ t.att.enables = 0x1FFF ∧ (t.att.flags = 0x1000 ∨ t.att.flags = 0x1008) ∧
    t.link = .idle ∧ t.ret.loss = none ∧ t.ret.marker = true ∧ t.ret.runSeconds = s.ret.runSeconds ∧ t.running = true ∧ t.pending = s.pending ∧
    t.meter.working = none ∧ t.mon.selection = none ∧ t.mon.revertive = s.mon.revertive ∧ t.tb.window = [] ∧ t.tb.phaseError = 0 ∧
    t.tb.gradeChanged = false ∧ t.cal.nextIdent = s.cal.nextIdent ∧
    (∀ r, t.ref r = .start (s.ref r).enabled (s.ref r).polarity (s.ref r).priority) ∧
    (∀ n : Fin 4, t.meter.results.get n = none ∧ (t.chan n).state = .off ∧ (t.chan n).cfg = (s.chan n).cfg ∧
      (t.chan n).inForce = (s.chan n).cfg.drive ∧ (t.chan n).staged = none ∧ (t.chan n).onAir = none ∧ (t.chan n).key = false ∧
      (t.chan n).history = (s.chan n).history.filter (fun h => decide ((s.ret.runSeconds - h).toNat < 1800)) ∧
      (t.chan n).arbiter = { inService := none, stack := [], mark := none })
  let timeless := fun (s t : State) => t.tb.state = .unset ∧ t.tb.grade = 6 ∧ t.tb.time = none ∧ t.ret.century = s.ret.century ∧
    t.profiles = s.profiles ∧
    (s.cal.sound → t.cal.entries = s.cal.entries.filter (fun e => decide (e.state ≠ .withdrawn)) ∧ t.cal.ring = s.cal.ring)
  let goesOn := fun (now : UtcSecond) (phase : Nat) (s t : State) =>
    let placed : State := { s with tb := { s.tb with time := some now } }
    t.tb.state = .free ∧ t.tb.grade = 5 ∧ t.tb.time = some now ∧ t.phase = phase ∧ t.ret.century = centuryOf now.minute ∧
    t.cal = (placed.discontinuity none).cal ∧ t.profiles = (placed.discontinuity none).profiles
  let time := fun (l : Loss) (q : Ticks) (s t : State) =>
    (l.time = none → timeless s t) ∧
    (∀ m k, l.time = some m → q = l.fraction → k = (s.ret.runSeconds - l.run).toNat → m.second < 60 → m.phase < 1000000 →
      (m.minute * 60 + m.second + k) / 60 < minutesKept →
      let now : UtcSecond := ⟨(m.minute * 60 + m.second + k) / 60, (m.minute * 60 + m.second + k) % 60⟩
      let ahead := fun e : Entry => e.state = .scheduled ∨ e.state = .announcing ∨ e.state = .committed
      let within := fun e : Entry => ahead e ∧ e.leapWithin ⟨m.minute, m.second⟩ now = true
      ((∀ e ∈ s.cal.entries, ¬within e) → goesOn now m.phase s t) ∧
      (∀ e ∈ s.cal.entries, within e → s.cal.sound →
        (∀ x ∈ s.cal.entries, ahead x → x.kind = .leapInsert ∨ x.kind = .leapDelete → x = e) → (now.minute * 60 + now.second + 1) / 60 < minutesKept →
        t.tb.state = .free ∧ t.tb.grade = 5 ∧ t.phase = m.phase ∧
        (e.kind = .leapDelete → t.tb.time = some ⟨(now.minute * 60 + now.second + 1) / 60, (now.minute * 60 + now.second + 1) % 60⟩) ∧
        (e.kind = .leapInsert → now = ⟨e.instant, 0⟩ → t.tb.time = some ⟨e.instant - 1, 60⟩) ∧
        (e.kind = .leapInsert → now ≠ ⟨e.instant, 0⟩ →
          t.tb.time = some ⟨(now.minute * 60 + now.second - 1) / 60, (now.minute * 60 + now.second - 1) % 60⟩)))
  (∀ (q : Ticks) (high : Bool) (s : State), s.vdd = false → s.resetN = true → s.ret.marker = true →
    ∃ t, exec (.powerUp q high) s = .next t ∧ t.fselPin = high ∧ warm s t ∧ ∀ l, s.ret.loss = some l → time l q s t) ∧
  (∀ (q : Ticks) (s : State), s.vdd = true → s.resetN = false → s.ret.marker = true →
    ∃ t, exec (.resetNRelease q) s = .next t ∧ warm s t ∧ ∀ l, s.ret.loss = some l → time l q s t) ∧
  (∀ (d : Nat) (q : Ticks) (s : State), s.listens → s.ret.loss = none →
    let p := Period.of d []
    ∃ t, exec (.resetPart p q) s = .next t ∧ warm s t ∧ (s.tb.time = none → timeless s t) ∧
      (∀ u, s.tb.time = some u → u.minute < minutesKept → (∀ e ∈ s.cal.entries, e.kind = .leapInsert → 1 ≤ e.instant) → goesOn u (s.handed p).phase s t))

/-! ### Sound states -/

/-- Every step keeps the blocks sound: UNSET exactly without station time and grade 6 exactly in UNSET; the window within its bounds; the two priorities different; every channel's fields within their bounds, with at most four carrier-on times and four stacked notices; the fields of HELD and RESUMING present there and nowhere else. -/
def Obligations.BlocksStaySound : Prop :=
  ∀ s t : State, s.tb.sound → s.mon.sound → (∀ n : Fin 4, (s.chan n).bounded ∧ (s.chan n).fieldsFit) → step s = .next t →
    t.tb.sound ∧ t.mon.sound ∧ ∀ n : Fin 4, (t.chan n).bounded ∧ (t.chan n).fieldsFit

/-- Every step keeps the outputs safe: CHn_KEY is asserted in ON AIR and in CARRIER alone, so that its carrier is on, and never while the part is stopped (R142, R179). -/
def Obligations.KeyingStaysSafe : Prop :=
  (∀ s t : State, s.keyingSafe → step s = .next t → t.keyingSafe) ∧
  (∀ (s : State) (n : Fin 4), s.keyingSafe → (s.chan n).key = true → s.carrierPin n = true)

/-- The part right after reset: the cold values of every block (R17, R36, R47, R77, R118, R139, R167, R177, R184, R187), an empty queue, and a sound state. That VDD is present, RESET_N high, FSEL high and the fraction 0 is the model's choice (log 3). -/
def Obligations.ResetIsColdAndSound : Prop :=
  let s := State.reset
  s.pending = [] ∧ s.running = true ∧
  (s.tb.state = .unset ∧ s.tb.grade = 6 ∧ s.tb.time = none ∧ s.tb.phaseError = 0 ∧ s.tb.window = [] ∧ s.tb.holdoverStart = none ∧
    s.tb.gradeChanged = false) ∧
  (s.ret.century = 20 ∧ s.ret.runSeconds = 0 ∧ s.ret.loss = none ∧ s.ret.marker = true) ∧
  (∀ r, (s.ref r).enabled = true ∧ (s.ref r).polarity = .rising ∧ (s.ref r).state = .acquiring ∧ (s.ref r).goodRun = 0 ∧
    (s.ref r).faultRun = 0 ∧ (s.ref r).candidateRun = 0 ∧ (s.ref r).anchor = none ∧ (s.ref r).lastLabel = none ∧ (s.ref r).lastVerdict = none ∧
    (s.ref r).agreement = false ∧ (s.ref r).disagreementReported = false ∧ (s.ref r).leapMismatch = false ∧ (s.ref r).lineError = false ∧
    (s.ref r).assembly = [] ∧ (s.ref r).held = none ∧ (s.ref r).carried = false) ∧
  s.mon.a.priority = 1 ∧ s.mon.b.priority = 2 ∧ s.mon.revertive = false ∧ s.mon.selection = none ∧
  (∀ i : Fin 4, s.profiles.get i = { defined := false, labelCode := 0, offset := 0, summer := false }) ∧
  s.cal = { entries := [], ring := [], nextIdent := 1 } ∧
  (∀ n : Fin 4, (s.chan n).cfg = { link := 0, mode := .forward, identity := 0, dwell := 5, doubt := 2, silence := 5, mask := ⟨false, false, false⟩, drive := 0 } ∧
    (s.chan n).state = .off ∧ s.carrierPin n = false ∧ (s.chan n).key = false ∧ (s.chan n).holdPending = false ∧ (s.chan n).claim = none ∧
    (s.chan n).resumeDeferred = false ∧ (s.chan n).quietDecided = false ∧ (s.chan n).heldBy = none ∧ (s.chan n).heldSince = none ∧
    (s.chan n).resumeStart = none ∧ (s.chan n).history = [] ∧ (s.chan n).fault = false ∧ (s.chan n).staged = none ∧ (s.chan n).onAir = none ∧
    (s.chan n).inForce = 0 ∧ (s.chan n).pendingAdvance = none ∧ (s.chan n).arbiter = { inService := none, stack := [], mark := none } ∧
    s.meter.results.get n = none) ∧
  s.meter.working = none ∧ s.link = .idle ∧ s.ready = false ∧
  s.att = { flags := 0x1000, enables := 0x1FFF, startKind := some .cold } ∧ s.attnN = false ∧
  s.cal.sound ∧ s.cal.marksFit ∧ s.tb.sound ∧ s.mon.sound ∧ (∀ n : Fin 4, (s.chan n).bounded ∧ (s.chan n).fieldsFit) ∧ s.keyingSafe
end

