-- ==== Sys2Proof/Laws/State.lean ====
section
/-! SUPPORT. One lemma for each field under each update of the state, so that no proof unfolds a record update; the four of a kind; the two references. -/

namespace Sys2Proof.Machine

/-! ### Four of a kind -/

@[simp] theorem Four.get_set_same {α : Type} (f : Four α) (n : Fin 4) (x : α) : (f.set n x).get n = x := by
  fin_cases n <;> rfl

theorem Four.get_set {α : Type} (f : Four α) (n m : Fin 4) (x : α) : (f.set n x).get m = if m = n then x else f.get m := by
  fin_cases n <;> fin_cases m <;> rfl

@[simp] theorem Four.get_set_other {α : Type} (f : Four α) {n m : Fin 4} (h : m ≠ n) (x : α) : (f.set n x).get m = f.get m := by
  simp [Four.get_set, h]

@[simp] theorem Four.set_set {α : Type} (f : Four α) (n : Fin 4) (x y : α) : (f.set n x).set n y = f.set n y := by
  fin_cases n <;> rfl

@[simp] theorem Four.set_get {α : Type} (f : Four α) (n : Fin 4) : f.set n (f.get n) = f := by
  fin_cases n <;> rfl

@[simp] theorem Four.get_map {α β : Type} (g : α → β) (f : Four α) (n : Fin 4) : (f.map g).get n = g (f.get n) := by
  fin_cases n <;> rfl

@[simp] theorem Four.get_all {α : Type} (x : α) (n : Fin 4) : (Four.all x).get n = x := by
  fin_cases n <;> rfl

theorem Four.ext_get {α : Type} {f g : Four α} (h : ∀ n, f.get n = g.get n) : f = g := by
  cases f; cases g
  have h0 := h 0; have h1 := h 1; have h2 := h 2; have h3 := h 3
  simp only [Four.get] at h0 h1 h2 h3
  simp [h0, h1, h2, h3]

/-! ### The updates, field by field -/

@[simp] theorem State.elapse_pending (d : Nat) (s : State) : (s.elapse d).pending = s.pending := rfl
@[simp] theorem State.elapse_vdd (d : Nat) (s : State) : (s.elapse d).vdd = s.vdd := rfl
@[simp] theorem State.elapse_resetN (d : Nat) (s : State) : (s.elapse d).resetN = s.resetN := rfl
@[simp] theorem State.elapse_vbatGood (d : Nat) (s : State) : (s.elapse d).vbatGood = s.vbatGood := rfl
@[simp] theorem State.elapse_fselPin (d : Nat) (s : State) : (s.elapse d).fselPin = s.fselPin := rfl
@[simp] theorem State.elapse_fin (d : Nat) (s : State) : (s.elapse d).fin = s.fin + d := rfl
@[simp] theorem State.elapse_tb (d : Nat) (s : State) : (s.elapse d).tb = { s.tb with elapsed := s.tb.elapsed + d } := rfl
@[simp] theorem State.elapse_ret (d : Nat) (s : State) : (s.elapse d).ret = s.ret := rfl
@[simp] theorem State.elapse_mon (d : Nat) (s : State) : (s.elapse d).mon = s.mon := rfl
@[simp] theorem State.elapse_profiles (d : Nat) (s : State) : (s.elapse d).profiles = s.profiles := rfl
@[simp] theorem State.elapse_cal (d : Nat) (s : State) : (s.elapse d).cal = s.cal := rfl
@[simp] theorem State.elapse_chans (d : Nat) (s : State) : (s.elapse d).chans = s.chans := rfl
@[simp] theorem State.elapse_meter (d : Nat) (s : State) : (s.elapse d).meter = s.meter := rfl
@[simp] theorem State.elapse_link (d : Nat) (s : State) : (s.elapse d).link = s.link := rfl
@[simp] theorem State.elapse_sdo (d : Nat) (s : State) : (s.elapse d).sdo = s.sdo := rfl
@[simp] theorem State.elapse_att (d : Nat) (s : State) : (s.elapse d).att = s.att := rfl

@[simp] theorem State.raise_pending (c : Cause) (s : State) : (s.raise c).pending = s.pending := rfl
@[simp] theorem State.raise_vdd (c : Cause) (s : State) : (s.raise c).vdd = s.vdd := rfl
@[simp] theorem State.raise_resetN (c : Cause) (s : State) : (s.raise c).resetN = s.resetN := rfl
@[simp] theorem State.raise_vbatGood (c : Cause) (s : State) : (s.raise c).vbatGood = s.vbatGood := rfl
@[simp] theorem State.raise_fselPin (c : Cause) (s : State) : (s.raise c).fselPin = s.fselPin := rfl
@[simp] theorem State.raise_fin (c : Cause) (s : State) : (s.raise c).fin = s.fin := rfl
@[simp] theorem State.raise_tb (c : Cause) (s : State) : (s.raise c).tb = s.tb := rfl
@[simp] theorem State.raise_ret (c : Cause) (s : State) : (s.raise c).ret = s.ret := rfl
@[simp] theorem State.raise_mon (c : Cause) (s : State) : (s.raise c).mon = s.mon := rfl
@[simp] theorem State.raise_profiles (c : Cause) (s : State) : (s.raise c).profiles = s.profiles := rfl
@[simp] theorem State.raise_cal (c : Cause) (s : State) : (s.raise c).cal = s.cal := rfl
@[simp] theorem State.raise_chans (c : Cause) (s : State) : (s.raise c).chans = s.chans := rfl
@[simp] theorem State.raise_meter (c : Cause) (s : State) : (s.raise c).meter = s.meter := rfl
@[simp] theorem State.raise_link (c : Cause) (s : State) : (s.raise c).link = s.link := rfl
@[simp] theorem State.raise_sdo (c : Cause) (s : State) : (s.raise c).sdo = s.sdo := rfl
@[simp] theorem State.raise_att (c : Cause) (s : State) : (s.raise c).att = { s.att with flags := s.att.flags ||| c.weight } := rfl

@[simp] theorem State.answer_pending (code : Byte) (r : Result) (f : List Byte) (s : State) : (s.answer code r f).pending = s.pending := rfl
@[simp] theorem State.answer_vdd (code : Byte) (r : Result) (f : List Byte) (s : State) : (s.answer code r f).vdd = s.vdd := rfl
@[simp] theorem State.answer_resetN (code : Byte) (r : Result) (f : List Byte) (s : State) : (s.answer code r f).resetN = s.resetN := rfl
@[simp] theorem State.answer_vbatGood (code : Byte) (r : Result) (f : List Byte) (s : State) : (s.answer code r f).vbatGood = s.vbatGood := rfl
@[simp] theorem State.answer_fselPin (code : Byte) (r : Result) (f : List Byte) (s : State) : (s.answer code r f).fselPin = s.fselPin := rfl
@[simp] theorem State.answer_fin (code : Byte) (r : Result) (f : List Byte) (s : State) : (s.answer code r f).fin = s.fin := rfl
@[simp] theorem State.answer_tb (code : Byte) (r : Result) (f : List Byte) (s : State) : (s.answer code r f).tb = s.tb := rfl
@[simp] theorem State.answer_ret (code : Byte) (r : Result) (f : List Byte) (s : State) : (s.answer code r f).ret = s.ret := rfl
@[simp] theorem State.answer_mon (code : Byte) (r : Result) (f : List Byte) (s : State) : (s.answer code r f).mon = s.mon := rfl
@[simp] theorem State.answer_profiles (code : Byte) (r : Result) (f : List Byte) (s : State) : (s.answer code r f).profiles = s.profiles := rfl
@[simp] theorem State.answer_cal (code : Byte) (r : Result) (f : List Byte) (s : State) : (s.answer code r f).cal = s.cal := rfl
@[simp] theorem State.answer_chans (code : Byte) (r : Result) (f : List Byte) (s : State) : (s.answer code r f).chans = s.chans := rfl
@[simp] theorem State.answer_meter (code : Byte) (r : Result) (f : List Byte) (s : State) : (s.answer code r f).meter = s.meter := rfl
@[simp] theorem State.answer_link (code : Byte) (r : Result) (f : List Byte) (s : State) : (s.answer code r f).link = .working (.formed (code :: r.byte :: f)) := rfl
@[simp] theorem State.answer_sdo (code : Byte) (r : Result) (f : List Byte) (s : State) : (s.answer code r f).sdo = s.sdo := rfl
@[simp] theorem State.answer_att (code : Byte) (r : Result) (f : List Byte) (s : State) : (s.answer code r f).att = s.att := rfl

@[simp] theorem State.refuse_pending (code : Byte) (r : Result) (s : State) : (s.refuse code r).pending = s.pending := rfl
@[simp] theorem State.refuse_vdd (code : Byte) (r : Result) (s : State) : (s.refuse code r).vdd = s.vdd := rfl
@[simp] theorem State.refuse_resetN (code : Byte) (r : Result) (s : State) : (s.refuse code r).resetN = s.resetN := rfl
@[simp] theorem State.refuse_vbatGood (code : Byte) (r : Result) (s : State) : (s.refuse code r).vbatGood = s.vbatGood := rfl
@[simp] theorem State.refuse_fselPin (code : Byte) (r : Result) (s : State) : (s.refuse code r).fselPin = s.fselPin := rfl
@[simp] theorem State.refuse_fin (code : Byte) (r : Result) (s : State) : (s.refuse code r).fin = s.fin := rfl
@[simp] theorem State.refuse_tb (code : Byte) (r : Result) (s : State) : (s.refuse code r).tb = s.tb := rfl
@[simp] theorem State.refuse_ret (code : Byte) (r : Result) (s : State) : (s.refuse code r).ret = s.ret := rfl
@[simp] theorem State.refuse_mon (code : Byte) (r : Result) (s : State) : (s.refuse code r).mon = s.mon := rfl
@[simp] theorem State.refuse_profiles (code : Byte) (r : Result) (s : State) : (s.refuse code r).profiles = s.profiles := rfl
@[simp] theorem State.refuse_cal (code : Byte) (r : Result) (s : State) : (s.refuse code r).cal = s.cal := rfl
@[simp] theorem State.refuse_chans (code : Byte) (r : Result) (s : State) : (s.refuse code r).chans = s.chans := rfl
@[simp] theorem State.refuse_meter (code : Byte) (r : Result) (s : State) : (s.refuse code r).meter = s.meter := rfl
@[simp] theorem State.refuse_link (code : Byte) (r : Result) (s : State) : (s.refuse code r).link = .working (.formed [code, r.byte]) := rfl
@[simp] theorem State.refuse_sdo (code : Byte) (r : Result) (s : State) : (s.refuse code r).sdo = s.sdo := rfl
@[simp] theorem State.refuse_att (code : Byte) (r : Result) (s : State) : (s.refuse code r).att = s.att := rfl

@[simp] theorem State.setChan_pending (n : Fin 4) (c : Channel) (s : State) : (s.setChan n c).pending = s.pending := rfl
@[simp] theorem State.setChan_vdd (n : Fin 4) (c : Channel) (s : State) : (s.setChan n c).vdd = s.vdd := rfl
@[simp] theorem State.setChan_resetN (n : Fin 4) (c : Channel) (s : State) : (s.setChan n c).resetN = s.resetN := rfl
@[simp] theorem State.setChan_vbatGood (n : Fin 4) (c : Channel) (s : State) : (s.setChan n c).vbatGood = s.vbatGood := rfl
@[simp] theorem State.setChan_fselPin (n : Fin 4) (c : Channel) (s : State) : (s.setChan n c).fselPin = s.fselPin := rfl
@[simp] theorem State.setChan_fin (n : Fin 4) (c : Channel) (s : State) : (s.setChan n c).fin = s.fin := rfl
@[simp] theorem State.setChan_tb (n : Fin 4) (c : Channel) (s : State) : (s.setChan n c).tb = s.tb := rfl
@[simp] theorem State.setChan_ret (n : Fin 4) (c : Channel) (s : State) : (s.setChan n c).ret = s.ret := rfl
@[simp] theorem State.setChan_mon (n : Fin 4) (c : Channel) (s : State) : (s.setChan n c).mon = s.mon := rfl
@[simp] theorem State.setChan_profiles (n : Fin 4) (c : Channel) (s : State) : (s.setChan n c).profiles = s.profiles := rfl
@[simp] theorem State.setChan_cal (n : Fin 4) (c : Channel) (s : State) : (s.setChan n c).cal = s.cal := rfl
@[simp] theorem State.setChan_chans (n : Fin 4) (c : Channel) (s : State) : (s.setChan n c).chans = s.chans.set n c := rfl
@[simp] theorem State.setChan_meter (n : Fin 4) (c : Channel) (s : State) : (s.setChan n c).meter = s.meter := rfl
@[simp] theorem State.setChan_link (n : Fin 4) (c : Channel) (s : State) : (s.setChan n c).link = s.link := rfl
@[simp] theorem State.setChan_sdo (n : Fin 4) (c : Channel) (s : State) : (s.setChan n c).sdo = s.sdo := rfl
@[simp] theorem State.setChan_att (n : Fin 4) (c : Channel) (s : State) : (s.setChan n c).att = s.att := rfl

@[simp] theorem State.modifyChan_pending (n : Fin 4) (f : Channel → Channel) (s : State) : (s.modifyChan n f).pending = s.pending := rfl
@[simp] theorem State.modifyChan_vdd (n : Fin 4) (f : Channel → Channel) (s : State) : (s.modifyChan n f).vdd = s.vdd := rfl
@[simp] theorem State.modifyChan_resetN (n : Fin 4) (f : Channel → Channel) (s : State) : (s.modifyChan n f).resetN = s.resetN := rfl
@[simp] theorem State.modifyChan_vbatGood (n : Fin 4) (f : Channel → Channel) (s : State) : (s.modifyChan n f).vbatGood = s.vbatGood := rfl
@[simp] theorem State.modifyChan_fselPin (n : Fin 4) (f : Channel → Channel) (s : State) : (s.modifyChan n f).fselPin = s.fselPin := rfl
@[simp] theorem State.modifyChan_fin (n : Fin 4) (f : Channel → Channel) (s : State) : (s.modifyChan n f).fin = s.fin := rfl
@[simp] theorem State.modifyChan_tb (n : Fin 4) (f : Channel → Channel) (s : State) : (s.modifyChan n f).tb = s.tb := rfl
@[simp] theorem State.modifyChan_ret (n : Fin 4) (f : Channel → Channel) (s : State) : (s.modifyChan n f).ret = s.ret := rfl
@[simp] theorem State.modifyChan_mon (n : Fin 4) (f : Channel → Channel) (s : State) : (s.modifyChan n f).mon = s.mon := rfl
@[simp] theorem State.modifyChan_profiles (n : Fin 4) (f : Channel → Channel) (s : State) : (s.modifyChan n f).profiles = s.profiles := rfl
@[simp] theorem State.modifyChan_cal (n : Fin 4) (f : Channel → Channel) (s : State) : (s.modifyChan n f).cal = s.cal := rfl
@[simp] theorem State.modifyChan_chans (n : Fin 4) (f : Channel → Channel) (s : State) : (s.modifyChan n f).chans = s.chans.set n (f (s.chan n)) := rfl
@[simp] theorem State.modifyChan_meter (n : Fin 4) (f : Channel → Channel) (s : State) : (s.modifyChan n f).meter = s.meter := rfl
@[simp] theorem State.modifyChan_link (n : Fin 4) (f : Channel → Channel) (s : State) : (s.modifyChan n f).link = s.link := rfl
@[simp] theorem State.modifyChan_sdo (n : Fin 4) (f : Channel → Channel) (s : State) : (s.modifyChan n f).sdo = s.sdo := rfl
@[simp] theorem State.modifyChan_att (n : Fin 4) (f : Channel → Channel) (s : State) : (s.modifyChan n f).att = s.att := rfl

@[simp] theorem State.setProfile_pending (i : Fin 4) (p : Profile) (s : State) : (s.setProfile i p).pending = s.pending := rfl
@[simp] theorem State.setProfile_vdd (i : Fin 4) (p : Profile) (s : State) : (s.setProfile i p).vdd = s.vdd := rfl
@[simp] theorem State.setProfile_resetN (i : Fin 4) (p : Profile) (s : State) : (s.setProfile i p).resetN = s.resetN := rfl
@[simp] theorem State.setProfile_vbatGood (i : Fin 4) (p : Profile) (s : State) : (s.setProfile i p).vbatGood = s.vbatGood := rfl
@[simp] theorem State.setProfile_fselPin (i : Fin 4) (p : Profile) (s : State) : (s.setProfile i p).fselPin = s.fselPin := rfl
@[simp] theorem State.setProfile_fin (i : Fin 4) (p : Profile) (s : State) : (s.setProfile i p).fin = s.fin := rfl
@[simp] theorem State.setProfile_tb (i : Fin 4) (p : Profile) (s : State) : (s.setProfile i p).tb = s.tb := rfl
@[simp] theorem State.setProfile_ret (i : Fin 4) (p : Profile) (s : State) : (s.setProfile i p).ret = s.ret := rfl
@[simp] theorem State.setProfile_mon (i : Fin 4) (p : Profile) (s : State) : (s.setProfile i p).mon = s.mon := rfl
@[simp] theorem State.setProfile_profiles (i : Fin 4) (p : Profile) (s : State) : (s.setProfile i p).profiles = s.profiles.set i p := rfl
@[simp] theorem State.setProfile_cal (i : Fin 4) (p : Profile) (s : State) : (s.setProfile i p).cal = s.cal := rfl
@[simp] theorem State.setProfile_chans (i : Fin 4) (p : Profile) (s : State) : (s.setProfile i p).chans = s.chans := rfl
@[simp] theorem State.setProfile_meter (i : Fin 4) (p : Profile) (s : State) : (s.setProfile i p).meter = s.meter := rfl
@[simp] theorem State.setProfile_link (i : Fin 4) (p : Profile) (s : State) : (s.setProfile i p).link = s.link := rfl
@[simp] theorem State.setProfile_sdo (i : Fin 4) (p : Profile) (s : State) : (s.setProfile i p).sdo = s.sdo := rfl
@[simp] theorem State.setProfile_att (i : Fin 4) (p : Profile) (s : State) : (s.setProfile i p).att = s.att := rfl

@[simp] theorem State.modifyEntry_pending (i : Nat) (f : Entry → Entry) (s : State) : (s.modifyEntry i f).pending = s.pending := rfl
@[simp] theorem State.modifyEntry_vdd (i : Nat) (f : Entry → Entry) (s : State) : (s.modifyEntry i f).vdd = s.vdd := rfl
@[simp] theorem State.modifyEntry_resetN (i : Nat) (f : Entry → Entry) (s : State) : (s.modifyEntry i f).resetN = s.resetN := rfl
@[simp] theorem State.modifyEntry_vbatGood (i : Nat) (f : Entry → Entry) (s : State) : (s.modifyEntry i f).vbatGood = s.vbatGood := rfl
@[simp] theorem State.modifyEntry_fselPin (i : Nat) (f : Entry → Entry) (s : State) : (s.modifyEntry i f).fselPin = s.fselPin := rfl
@[simp] theorem State.modifyEntry_fin (i : Nat) (f : Entry → Entry) (s : State) : (s.modifyEntry i f).fin = s.fin := rfl
@[simp] theorem State.modifyEntry_tb (i : Nat) (f : Entry → Entry) (s : State) : (s.modifyEntry i f).tb = s.tb := rfl
@[simp] theorem State.modifyEntry_ret (i : Nat) (f : Entry → Entry) (s : State) : (s.modifyEntry i f).ret = s.ret := rfl
@[simp] theorem State.modifyEntry_mon (i : Nat) (f : Entry → Entry) (s : State) : (s.modifyEntry i f).mon = s.mon := rfl
@[simp] theorem State.modifyEntry_profiles (i : Nat) (f : Entry → Entry) (s : State) : (s.modifyEntry i f).profiles = s.profiles := rfl
@[simp] theorem State.modifyEntry_cal (i : Nat) (f : Entry → Entry) (s : State) : (s.modifyEntry i f).cal = { s.cal with entries := s.cal.entries.map fun e => if e.ident = i then f e else e } := rfl
@[simp] theorem State.modifyEntry_chans (i : Nat) (f : Entry → Entry) (s : State) : (s.modifyEntry i f).chans = s.chans := rfl
@[simp] theorem State.modifyEntry_meter (i : Nat) (f : Entry → Entry) (s : State) : (s.modifyEntry i f).meter = s.meter := rfl
@[simp] theorem State.modifyEntry_link (i : Nat) (f : Entry → Entry) (s : State) : (s.modifyEntry i f).link = s.link := rfl
@[simp] theorem State.modifyEntry_sdo (i : Nat) (f : Entry → Entry) (s : State) : (s.modifyEntry i f).sdo = s.sdo := rfl
@[simp] theorem State.modifyEntry_att (i : Nat) (f : Entry → Entry) (s : State) : (s.modifyEntry i f).att = s.att := rfl

@[simp] theorem State.placeLabel_pending (u : UtcSecond) (s : State) : (s.placeLabel u).pending = s.pending := rfl
@[simp] theorem State.placeLabel_vdd (u : UtcSecond) (s : State) : (s.placeLabel u).vdd = s.vdd := rfl
@[simp] theorem State.placeLabel_resetN (u : UtcSecond) (s : State) : (s.placeLabel u).resetN = s.resetN := rfl
@[simp] theorem State.placeLabel_vbatGood (u : UtcSecond) (s : State) : (s.placeLabel u).vbatGood = s.vbatGood := rfl
@[simp] theorem State.placeLabel_fselPin (u : UtcSecond) (s : State) : (s.placeLabel u).fselPin = s.fselPin := rfl
@[simp] theorem State.placeLabel_fin (u : UtcSecond) (s : State) : (s.placeLabel u).fin = s.fin := rfl
@[simp] theorem State.placeLabel_tb (u : UtcSecond) (s : State) : (s.placeLabel u).tb = { s.tb with time := some u, elapsed := 0 } := rfl
@[simp] theorem State.placeLabel_ret (u : UtcSecond) (s : State) : (s.placeLabel u).ret = { s.ret with century := centuryOf u.minute } := rfl
@[simp] theorem State.placeLabel_mon (u : UtcSecond) (s : State) : (s.placeLabel u).mon = s.mon := rfl
@[simp] theorem State.placeLabel_profiles (u : UtcSecond) (s : State) : (s.placeLabel u).profiles = s.profiles := rfl
@[simp] theorem State.placeLabel_cal (u : UtcSecond) (s : State) : (s.placeLabel u).cal = s.cal := rfl
@[simp] theorem State.placeLabel_chans (u : UtcSecond) (s : State) : (s.placeLabel u).chans = s.chans := rfl
@[simp] theorem State.placeLabel_meter (u : UtcSecond) (s : State) : (s.placeLabel u).meter = s.meter := rfl
@[simp] theorem State.placeLabel_link (u : UtcSecond) (s : State) : (s.placeLabel u).link = s.link := rfl
@[simp] theorem State.placeLabel_sdo (u : UtcSecond) (s : State) : (s.placeLabel u).sdo = s.sdo := rfl
@[simp] theorem State.placeLabel_att (u : UtcSecond) (s : State) : (s.placeLabel u).att = s.att := rfl

@[simp] theorem State.moveTime_pending (u : UtcSecond) (s : State) : (s.moveTime u).pending = s.pending := rfl
@[simp] theorem State.moveTime_vdd (u : UtcSecond) (s : State) : (s.moveTime u).vdd = s.vdd := rfl
@[simp] theorem State.moveTime_resetN (u : UtcSecond) (s : State) : (s.moveTime u).resetN = s.resetN := rfl
@[simp] theorem State.moveTime_vbatGood (u : UtcSecond) (s : State) : (s.moveTime u).vbatGood = s.vbatGood := rfl
@[simp] theorem State.moveTime_fselPin (u : UtcSecond) (s : State) : (s.moveTime u).fselPin = s.fselPin := rfl
@[simp] theorem State.moveTime_fin (u : UtcSecond) (s : State) : (s.moveTime u).fin = s.fin := rfl
@[simp] theorem State.moveTime_tb (u : UtcSecond) (s : State) : (s.moveTime u).tb = { s.tb with time := some u } := rfl
@[simp] theorem State.moveTime_ret (u : UtcSecond) (s : State) : (s.moveTime u).ret = { s.ret with century := centuryOf u.minute } := rfl
@[simp] theorem State.moveTime_mon (u : UtcSecond) (s : State) : (s.moveTime u).mon = s.mon := rfl
@[simp] theorem State.moveTime_profiles (u : UtcSecond) (s : State) : (s.moveTime u).profiles = s.profiles := rfl
@[simp] theorem State.moveTime_cal (u : UtcSecond) (s : State) : (s.moveTime u).cal = s.cal := rfl
@[simp] theorem State.moveTime_chans (u : UtcSecond) (s : State) : (s.moveTime u).chans = s.chans := rfl
@[simp] theorem State.moveTime_meter (u : UtcSecond) (s : State) : (s.moveTime u).meter = s.meter := rfl
@[simp] theorem State.moveTime_link (u : UtcSecond) (s : State) : (s.moveTime u).link = s.link := rfl
@[simp] theorem State.moveTime_sdo (u : UtcSecond) (s : State) : (s.moveTime u).sdo = s.sdo := rfl
@[simp] theorem State.moveTime_att (u : UtcSecond) (s : State) : (s.moveTime u).att = s.att := rfl

@[simp] theorem State.handed_pending (p : Period) (s : State) : (s.handed p).pending = s.pending := rfl
@[simp] theorem State.handed_vdd (p : Period) (s : State) : (s.handed p).vdd = s.vdd := rfl
@[simp] theorem State.handed_resetN (p : Period) (s : State) : (s.handed p).resetN = s.resetN := rfl
@[simp] theorem State.handed_vbatGood (p : Period) (s : State) : (s.handed p).vbatGood = s.vbatGood := rfl
@[simp] theorem State.handed_fselPin (p : Period) (s : State) : (s.handed p).fselPin = s.fselPin := rfl
@[simp] theorem State.handed_fin (p : Period) (s : State) : (s.handed p).fin = s.fin + p.elapsed := rfl
@[simp] theorem State.handed_tb (p : Period) (s : State) : (s.handed p).tb = { s.tb with elapsed := s.tb.elapsed + p.elapsed } := rfl
@[simp] theorem State.handed_ret (p : Period) (s : State) : (s.handed p).ret = s.ret := rfl
@[simp] theorem State.handed_mon (p : Period) (s : State) : (s.handed p).mon = s.mon := rfl
@[simp] theorem State.handed_profiles (p : Period) (s : State) : (s.handed p).profiles = s.profiles := rfl
@[simp] theorem State.handed_cal (p : Period) (s : State) : (s.handed p).cal = s.cal := rfl
@[simp] theorem State.handed_chans (p : Period) (s : State) : (s.handed p).chans = s.chans := rfl
@[simp] theorem State.handed_meter (p : Period) (s : State) : (s.handed p).meter = s.meter := rfl
@[simp] theorem State.handed_link (p : Period) (s : State) : (s.handed p).link = s.link := rfl
@[simp] theorem State.handed_sdo (p : Period) (s : State) : (s.handed p).sdo = s.sdoBytes (p.fields.length + 1) := rfl
@[simp] theorem State.handed_att (p : Period) (s : State) : (s.handed p).att = s.att := rfl

/-- The second in progress takes a correction: its length and its remainder, which together make up what came in (R1). -/
theorem State.correct_tb (ns : Int) (s : State) : (s.correct ns).tb = { s.tb with
    length := ((s.nominalLength : Int) + resolvePeriods (ns + s.tb.carried) s.periodNs).toNat
    remainder := ns + s.tb.carried - resolvePeriods (ns + s.tb.carried) s.periodNs * s.periodNs } := rfl

@[simp] theorem State.correct_pending (ns : Int) (s : State) : (s.correct ns).pending = s.pending := rfl
@[simp] theorem State.correct_vdd (ns : Int) (s : State) : (s.correct ns).vdd = s.vdd := rfl
@[simp] theorem State.correct_resetN (ns : Int) (s : State) : (s.correct ns).resetN = s.resetN := rfl
@[simp] theorem State.correct_vbatGood (ns : Int) (s : State) : (s.correct ns).vbatGood = s.vbatGood := rfl
@[simp] theorem State.correct_fselPin (ns : Int) (s : State) : (s.correct ns).fselPin = s.fselPin := rfl
@[simp] theorem State.correct_fin (ns : Int) (s : State) : (s.correct ns).fin = s.fin := rfl
@[simp] theorem State.correct_ret (ns : Int) (s : State) : (s.correct ns).ret = s.ret := rfl
@[simp] theorem State.correct_mon (ns : Int) (s : State) : (s.correct ns).mon = s.mon := rfl
@[simp] theorem State.correct_profiles (ns : Int) (s : State) : (s.correct ns).profiles = s.profiles := rfl
@[simp] theorem State.correct_cal (ns : Int) (s : State) : (s.correct ns).cal = s.cal := rfl
@[simp] theorem State.correct_chans (ns : Int) (s : State) : (s.correct ns).chans = s.chans := rfl
@[simp] theorem State.correct_meter (ns : Int) (s : State) : (s.correct ns).meter = s.meter := rfl
@[simp] theorem State.correct_link (ns : Int) (s : State) : (s.correct ns).link = s.link := rfl
@[simp] theorem State.correct_sdo (ns : Int) (s : State) : (s.correct ns).sdo = s.sdo := rfl
@[simp] theorem State.correct_att (ns : Int) (s : State) : (s.correct ns).att = s.att := rfl

@[simp] theorem State.slew_pending (e : Int) (s : State) : (s.slew e).pending = s.pending := rfl
@[simp] theorem State.slew_vdd (e : Int) (s : State) : (s.slew e).vdd = s.vdd := rfl
@[simp] theorem State.slew_resetN (e : Int) (s : State) : (s.slew e).resetN = s.resetN := rfl
@[simp] theorem State.slew_vbatGood (e : Int) (s : State) : (s.slew e).vbatGood = s.vbatGood := rfl
@[simp] theorem State.slew_fselPin (e : Int) (s : State) : (s.slew e).fselPin = s.fselPin := rfl
@[simp] theorem State.slew_fin (e : Int) (s : State) : (s.slew e).fin = s.fin := rfl
@[simp] theorem State.slew_tb (e : Int) (s : State) : (s.slew e).tb = ({ s with tb := { s.tb with window := s.tb.windowWith (slewOf e), slewed := true } }.correct (slewOf e * 1000)).tb := rfl
@[simp] theorem State.slew_ret (e : Int) (s : State) : (s.slew e).ret = s.ret := rfl
@[simp] theorem State.slew_mon (e : Int) (s : State) : (s.slew e).mon = s.mon := rfl
@[simp] theorem State.slew_profiles (e : Int) (s : State) : (s.slew e).profiles = s.profiles := rfl
@[simp] theorem State.slew_cal (e : Int) (s : State) : (s.slew e).cal = s.cal := rfl
@[simp] theorem State.slew_chans (e : Int) (s : State) : (s.slew e).chans = s.chans := rfl
@[simp] theorem State.slew_meter (e : Int) (s : State) : (s.slew e).meter = s.meter := rfl
@[simp] theorem State.slew_link (e : Int) (s : State) : (s.slew e).link = s.link := rfl
@[simp] theorem State.slew_sdo (e : Int) (s : State) : (s.slew e).sdo = s.sdo := rfl
@[simp] theorem State.slew_att (e : Int) (s : State) : (s.slew e).att = s.att := rfl

@[simp] theorem State.tellFault_pending (n : Fin 4) (high : Bool) (stood : Nat) (s : State) : (s.tellFault n high stood).pending = s.pending := rfl
@[simp] theorem State.tellFault_vdd (n : Fin 4) (high : Bool) (stood : Nat) (s : State) : (s.tellFault n high stood).vdd = s.vdd := rfl
@[simp] theorem State.tellFault_resetN (n : Fin 4) (high : Bool) (stood : Nat) (s : State) : (s.tellFault n high stood).resetN = s.resetN := rfl
@[simp] theorem State.tellFault_vbatGood (n : Fin 4) (high : Bool) (stood : Nat) (s : State) : (s.tellFault n high stood).vbatGood = s.vbatGood := rfl
@[simp] theorem State.tellFault_fselPin (n : Fin 4) (high : Bool) (stood : Nat) (s : State) : (s.tellFault n high stood).fselPin = s.fselPin := rfl
@[simp] theorem State.tellFault_fin (n : Fin 4) (high : Bool) (stood : Nat) (s : State) : (s.tellFault n high stood).fin = s.fin := rfl
@[simp] theorem State.tellFault_tb (n : Fin 4) (high : Bool) (stood : Nat) (s : State) : (s.tellFault n high stood).tb = s.tb := rfl
@[simp] theorem State.tellFault_ret (n : Fin 4) (high : Bool) (stood : Nat) (s : State) : (s.tellFault n high stood).ret = s.ret := rfl
@[simp] theorem State.tellFault_mon (n : Fin 4) (high : Bool) (stood : Nat) (s : State) : (s.tellFault n high stood).mon = s.mon := rfl
@[simp] theorem State.tellFault_profiles (n : Fin 4) (high : Bool) (stood : Nat) (s : State) : (s.tellFault n high stood).profiles = s.profiles := rfl
@[simp] theorem State.tellFault_cal (n : Fin 4) (high : Bool) (stood : Nat) (s : State) : (s.tellFault n high stood).cal = s.cal := rfl
@[simp] theorem State.tellFault_chans (n : Fin 4) (high : Bool) (stood : Nat) (s : State) : (s.tellFault n high stood).chans = s.chans.set n { s.chan n with faultLine := (s.chan n).faultLine.told high (stood * s.perMicro) s.fin } := rfl
@[simp] theorem State.tellFault_meter (n : Fin 4) (high : Bool) (stood : Nat) (s : State) : (s.tellFault n high stood).meter = s.meter := rfl
@[simp] theorem State.tellFault_link (n : Fin 4) (high : Bool) (stood : Nat) (s : State) : (s.tellFault n high stood).link = s.link := rfl
@[simp] theorem State.tellFault_sdo (n : Fin 4) (high : Bool) (stood : Nat) (s : State) : (s.tellFault n high stood).sdo = s.sdo := rfl
@[simp] theorem State.tellFault_att (n : Fin 4) (high : Bool) (stood : Nat) (s : State) : (s.tellFault n high stood).att = s.att := rfl

/-! ### The length of a second -/

/-- A correction joins the window as its last, and the window still holds at most 64 (R9). -/
theorem Timebase.windowWith_length (c : Int) {b : Timebase} (h : b.window.length ≤ 64) : (b.windowWith c).length ≤ 64 := by
  unfold Timebase.windowWith enterWindow
  split <;> simp <;> omega

/-- Whatever the window then holds is the correction or was in it. -/
theorem Timebase.mem_windowWith {x c : Int} {b : Timebase} (h : x ∈ b.windowWith c) : x ∈ b.window ∨ x = c := by
  unfold Timebase.windowWith enterWindow at h
  split at h
  · rcases List.mem_append.mp h with h | h
    · exact .inl (List.mem_of_mem_dropLast h)
    · exact .inr (List.mem_singleton.mp h)
  · rcases List.mem_append.mp (List.mem_of_mem_drop h) with h | h
    · exact .inl h
    · exact .inr (List.mem_singleton.mp h)

/-- A total is resolved to the nearest period, so at most half a period remains either way (R1). -/
theorem resolvePeriods_nearest (total : Int) {period : Int} (h : 0 < period) :
    -period ≤ 2 * (total - resolvePeriods total period * period) ∧ 2 * (total - resolvePeriods total period * period) ≤ period := by
  have hp : 0 < 2 * period := by omega
  have hd := Int.emod_add_mul_ediv (2 * total + period) (2 * period)
  have h0 := Int.emod_nonneg (2 * total + period) (ne_of_gt hp)
  have h1 := Int.emod_lt_of_pos (2 * total + period) hp
  unfold resolvePeriods
  rw [Int.fdiv_eq_ediv_of_nonneg _ (le_of_lt hp)]
  have e : 2 * period * ((2 * total + period) / (2 * period)) = 2 * ((2 * total + period) / (2 * period) * period) := by ring
  omega

/-- In LOCKED a measurement below 0 gives the second its slew (R7). -/
theorem State.setLength_of_measured {s : State} {e : Int} (h : s.tb.state = .locked) (m : s.tb.measured = some e) :
    s.setLength = ({ s with tb := { s.tb with carried := s.tb.remainder, measured := none, slewed := false } } : State).slew e := by
  simp [State.setLength, h, m]

/-- Without one, and out of LOCKED, the second takes the estimate (R7, R10). -/
theorem State.setLength_of_estimate {s : State} (h : s.tb.state ≠ .locked ∨ s.tb.measured = none) :
    s.setLength = ({ s with tb := { s.tb with carried := s.tb.remainder, measured := none, slewed := false } } : State).correct (estimate s.tb.window) := by
  unfold State.setLength
  split
  · next hl hm =>
    rcases h with h | h
    · exact absurd hl h
    · simp [h] at hm
  · rfl

/-! ### Channels -/

@[simp] theorem State.chan_setChan (n m : Fin 4) (c : Channel) (s : State) :
    (s.setChan n c).chan m = if m = n then c else s.chan m := Four.get_set _ _ _ _

@[simp] theorem State.chan_modifyChan (n m : Fin 4) (f : Channel → Channel) (s : State) :
    (s.modifyChan n f).chan m = if m = n then f (s.chan n) else s.chan m := Four.get_set _ _ _ _

@[simp] theorem Arbiter.keep_mark (p : Nat → Bool) (a : Arbiter) : (a.keep p).mark = a.mark := rfl

@[simp] theorem Arbiter.keep_inService (p : Nat → Bool) (a : Arbiter) : (a.keep p).inService = a.inService.filter fun x => p x.ident := rfl

@[simp] theorem Arbiter.keep_stack (p : Nat → Bool) (a : Arbiter) : (a.keep p).stack = a.stack.filter fun x => p x.ident := rfl

/-- A record is held after `keep`, in service or on the stack, exactly when it was held before and `p` keeps its ident. -/
theorem Arbiter.mem_keep {p : Nat → Bool} {a : Arbiter} {x : Slot} :
    (x ∈ (a.keep p).inService ∨ x ∈ (a.keep p).stack) ↔ (x ∈ a.inService ∨ x ∈ a.stack) ∧ p x.ident = true := by
  simp [Option.mem_def, or_and_right]

theorem Arbiter.keep_stack_length_le (p : Nat → Bool) (a : Arbiter) : (a.keep p).stack.length ≤ a.stack.length := List.length_filter_le _ _

theorem State.scopeHolds_iff {s : State} {n link : Fin 4} {ident : Nat} :
    s.scopeHolds n link ident = true ↔ ∃ e ∈ s.cal.entries, e.ident = ident ∧ e.payload.concerns n link = true := by
  simp [State.scopeHolds]

theorem Channel.configure_repeat (scope : Nat → Bool) (c : Channel) : c.configure scope c.cfg = c := by simp [Channel.configure]

/-- CONFIGURE CHANNEL writes the configuration, the pending advance and the arbiter's record, and nothing else of the channel. -/
theorem Channel.configure_frame (scope : Nat → Bool) (cfg : ChannelConfig) (c : Channel) : c.configure scope cfg = { c with
    cfg := cfg, pendingAdvance := (c.configure scope cfg).pendingAdvance, arbiter := (c.configure scope cfg).arbiter } := by
  unfold Channel.configure; split
  · rename_i h; cases h; rfl
  · rfl

theorem Channel.configure_sameLink {scope : Nat → Bool} {cfg : ChannelConfig} {c : Channel} (h : cfg.link = c.cfg.link) :
    (c.configure scope cfg).arbiter = c.arbiter := by
  unfold Channel.configure; split <;> rfl

theorem Channel.configure_newLink {scope : Nat → Bool} {cfg : ChannelConfig} {c : Channel} (h : cfg.link ≠ c.cfg.link) :
    (c.configure scope cfg).arbiter = c.arbiter.keep scope := by
  have k : cfg ≠ c.cfg := fun k => h (k ▸ rfl)
  simp [Channel.configure, h, k]

theorem Channel.frameToKey_of_frame {c : Channel} (q : c.quietDecided = false) (h : c.claim = none) (k : c.claimCancelled = false) :
    c.frameToKey = c.staged := by simp [Channel.frameToKey, q, h, k]

theorem Channel.frameToKey_of_later {c : Channel} (h : c.quietDecided = true ∨ c.claim ≠ none ∨ c.claimCancelled = true) : c.frameToKey = none := by
  rcases h with h | h | h
  · simp [Channel.frameToKey, h]
  · simp [Channel.frameToKey, Option.isSome_iff_ne_none.mpr h]
  · simp [Channel.frameToKey, h]

theorem Channel.beginFrame_onAir {c : Channel} (h : c.state = .onAir) : c.beginFrame = c := by simp [Channel.beginFrame, h]

theorem Channel.beginFrame_other {c : Channel} (h : c.state ≠ .onAir) : c.beginFrame = c.emptyArbiter := by simp [Channel.beginFrame, h]

theorem Channel.beginFrame_frame (c : Channel) : c.beginFrame = { c with arbiter := c.beginFrame.arbiter } := by
  unfold Channel.beginFrame; split <;> rfl

@[simp] theorem State.chan_elapse (d : Nat) (n : Fin 4) (s : State) : (s.elapse d).chan n = s.chan n := rfl

@[simp] theorem State.chan_raise (c : Cause) (n : Fin 4) (s : State) : (s.raise c).chan n = s.chan n := rfl

@[simp] theorem State.chan_answer (code : Byte) (r : Result) (f : List Byte) (n : Fin 4) (s : State) :
    (s.answer code r f).chan n = s.chan n := rfl

@[simp] theorem State.chan_handed (p : Period) (n : Fin 4) (s : State) : (s.handed p).chan n = s.chan n := rfl

@[simp] theorem State.chan_tellFault (n m : Fin 4) (high : Bool) (stood : Nat) (s : State) : (s.tellFault n high stood).chan m =
    if m = n then { s.chan n with faultLine := (s.chan n).faultLine.told high (stood * s.perMicro) s.fin } else s.chan m := Four.get_set _ _ _ _

@[simp] theorem State.running_elapse (d : Nat) (s : State) : (s.elapse d).running = s.running := rfl

@[simp] theorem State.running_raise (c : Cause) (s : State) : (s.raise c).running = s.running := rfl

@[simp] theorem State.running_handed (p : Period) (s : State) : (s.handed p).running = s.running := rfl

/-! ### References -/

@[simp] theorem State.ref_setRef_same (r : Ref) (x : RefRecord) (s : State) : (s.setRef r x).ref r = x := by
  cases r <;> rfl

@[simp] theorem State.ref_setRef_other (r : Ref) (x : RefRecord) (s : State) :
    (s.setRef r x).ref (otherRef r) = s.ref (otherRef r) := by
  cases r <;> rfl

theorem State.ref_setRef (r q : Ref) (x : RefRecord) (s : State) : (s.setRef r x).ref q = if q = r then x else s.ref q := by
  cases r <;> cases q <;> rfl

@[simp] theorem State.setRef_pending (r : Ref) (x : RefRecord) (s : State) : (s.setRef r x).pending = s.pending := by cases r <;> rfl
@[simp] theorem State.setRef_vdd (r : Ref) (x : RefRecord) (s : State) : (s.setRef r x).vdd = s.vdd := by cases r <;> rfl
@[simp] theorem State.setRef_resetN (r : Ref) (x : RefRecord) (s : State) : (s.setRef r x).resetN = s.resetN := by cases r <;> rfl
@[simp] theorem State.setRef_vbatGood (r : Ref) (x : RefRecord) (s : State) : (s.setRef r x).vbatGood = s.vbatGood := by cases r <;> rfl
@[simp] theorem State.setRef_fselPin (r : Ref) (x : RefRecord) (s : State) : (s.setRef r x).fselPin = s.fselPin := by cases r <;> rfl
@[simp] theorem State.setRef_fin (r : Ref) (x : RefRecord) (s : State) : (s.setRef r x).fin = s.fin := by cases r <;> rfl
@[simp] theorem State.setRef_tb (r : Ref) (x : RefRecord) (s : State) : (s.setRef r x).tb = s.tb := by cases r <;> rfl
@[simp] theorem State.setRef_ret (r : Ref) (x : RefRecord) (s : State) : (s.setRef r x).ret = s.ret := by cases r <;> rfl
@[simp] theorem State.setRef_profiles (r : Ref) (x : RefRecord) (s : State) : (s.setRef r x).profiles = s.profiles := by cases r <;> rfl
@[simp] theorem State.setRef_cal (r : Ref) (x : RefRecord) (s : State) : (s.setRef r x).cal = s.cal := by cases r <;> rfl
@[simp] theorem State.setRef_chans (r : Ref) (x : RefRecord) (s : State) : (s.setRef r x).chans = s.chans := by cases r <;> rfl
@[simp] theorem State.setRef_meter (r : Ref) (x : RefRecord) (s : State) : (s.setRef r x).meter = s.meter := by cases r <;> rfl
@[simp] theorem State.setRef_link (r : Ref) (x : RefRecord) (s : State) : (s.setRef r x).link = s.link := by cases r <;> rfl
@[simp] theorem State.setRef_sdo (r : Ref) (x : RefRecord) (s : State) : (s.setRef r x).sdo = s.sdo := by cases r <;> rfl
@[simp] theorem State.setRef_att (r : Ref) (x : RefRecord) (s : State) : (s.setRef r x).att = s.att := by cases r <;> rfl
@[simp] theorem State.setRef_selection (r : Ref) (x : RefRecord) (s : State) :
    (s.setRef r x).mon.selection = s.mon.selection := by cases r <;> rfl
@[simp] theorem State.setRef_revertive (r : Ref) (x : RefRecord) (s : State) :
    (s.setRef r x).mon.revertive = s.mon.revertive := by cases r <;> rfl
@[simp] theorem State.setRef_firstEdge (r : Ref) (x : RefRecord) (s : State) :
    (s.setRef r x).mon.firstEdge = s.mon.firstEdge := by cases r <;> rfl

end Sys2Proof.Machine
end

