-- ==== Sys2Proof/Laws/Link.lean ====
section
/-! SUPPORT. What the link does with a select period: one lemma for each case of State.takeRequest, and what an event finds in a part that runs or is stopped. -/

namespace Sys2Proof.Machine

/-- The link's tests, over the state at the end of the period. -/
theorem takeRequest_eq (s : State) (code : Byte) (total : Nat) (owner : List Byte → State → State) (p : Period) :
    s.takeRequest code total owner p =
      if s.running then
        if p.stale then s.elapse p.elapsed
        else
          match s.link with
          | .working _ => (s.handed p).raise .linkOverrun
          | .idle | .replyHeld _ =>
            if p.fields.length + 1 = total ∧ p.extra = 0 then owner p.fields (s.handed p)
            else (s.handed p).refuse code .badLength
      else s := rfl

/-- A request of the right length that the link takes is handed to its owner. -/
theorem takeRequest_handed {s : State} (h : s.listens) {code : Byte} {total : Nat} {owner : List Byte → State → State} {p : Period}
    (hs : p.stale = false) (hl : p.fields.length + 1 = total) (hx : p.extra = 0) :
    s.takeRequest code total owner p = owner p.fields (s.handed p) := by
  obtain ⟨hr, hw⟩ := h
  rw [takeRequest_eq]
  cases hc : s.link <;> simp_all

/-- A request of the right length in a period of whole bytes; cite it with the length as (by rfl). -/
theorem takeRequest_of {s : State} (h : s.listens) {code : Byte} {total : Nat} {owner : List Byte → State → State} {d : Nat}
    {f : List Byte} (hl : f.length + 1 = total) :
    s.takeRequest code total owner (.of d f) = owner f (s.handed (.of d f)) := takeRequest_handed h rfl hl rfl

/-- A request of the wrong length is answered BAD LENGTH. -/
theorem takeRequest_badLength {s : State} (h : s.listens) {code : Byte} {total : Nat} {owner : List Byte → State → State} {p : Period}
    (hs : p.stale = false) (hl : ¬(p.fields.length + 1 = total ∧ p.extra = 0)) :
    s.takeRequest code total owner p = (s.handed p).refuse code .badLength := by
  obtain ⟨hr, hw⟩ := h
  rw [takeRequest_eq]
  cases hc : s.link with
  | working w => simp [hc] at hw
  | idle => simp only [hr, hs, hl, if_true, if_false, Bool.false_eq_true]
  | replyHeld r => simp only [hr, hs, hl, if_true, if_false, Bool.false_eq_true]

/-- A request period that ends in WORKING is an overrun. -/
theorem takeRequest_overrun {s : State} {w : Work} (hr : s.running = true) (hw : s.link = .working w) {code : Byte} {total : Nat}
    {owner : List Byte → State → State} {p : Period} (hs : p.stale = false) :
    s.takeRequest code total owner p = (s.handed p).raise .linkOverrun := by
  rw [takeRequest_eq]; simp [hr, hs, hw]

/-- A period already in progress when the last start was taken is ignored. -/
theorem takeRequest_stale {s : State} (hr : s.running = true) {code : Byte} {total : Nat} {owner : List Byte → State → State} {p : Period}
    (hs : p.stale = true) : s.takeRequest code total owner p = s.elapse p.elapsed := by
  simp [State.takeRequest, hr, hs]

/-- A part that is stopped takes no request. -/
theorem takeRequest_stopped {s : State} (hr : s.running = false) {code : Byte} {total : Nat} {owner : List Byte → State → State}
    {p : Period} : s.takeRequest code total owner p = s := by
  simp [State.takeRequest, hr]

/-- What holds of the state as it was, of an overrun, of a BAD LENGTH and of what the owner leaves, holds of what the link leaves. -/
theorem takeRequest_cases {P : State → Prop} {s : State} {code : Byte} {total : Nat} {owner : List Byte → State → State} {p : Period}
    (h0 : P s) (h1 : P (s.elapse p.elapsed)) (h2 : P ((s.handed p).raise .linkOverrun)) (h3 : P ((s.handed p).refuse code .badLength))
    (h4 : s.listens → p.fields.length + 1 = total → P (owner p.fields (s.handed p))) :
    P (s.takeRequest code total owner p) := by
  cases hr : s.running with
  | false => rw [takeRequest_stopped hr]; exact h0
  | true =>
    cases hs : p.stale with
    | true => rw [takeRequest_stale hr hs]; exact h1
    | false =>
      by_cases hw : ∃ w, s.link = .working w
      · obtain ⟨w, hw⟩ := hw
        rw [takeRequest_overrun hr hw hs]; exact h2
      · have hl : s.listens := by
          refine ⟨hr, ?_⟩
          cases hc : s.link with
          | working w => exact absurd ⟨w, hc⟩ hw
          | idle => rfl
          | replyHeld r => rfl
        by_cases ht : p.fields.length + 1 = total ∧ p.extra = 0
        · rw [takeRequest_handed hl hs ht.1 ht.2]; exact h4 hl ht.1
        · rw [takeRequest_badLength hl hs ht]; exact h3

@[simp] theorem whenRunning_running {s : State} (h : s.running = true) (d : Nat) (f : State → State) :
    s.whenRunning d f = f (s.elapse d) := by simp [State.whenRunning, h]

@[simp] theorem whenRunning_stopped {s : State} (h : s.running = false) (d : Nat) (f : State → State) :
    s.whenRunning d f = s := by simp [State.whenRunning, h]

@[simp] theorem elapse_zero (s : State) : s.elapse 0 = s := rfl

end Sys2Proof.Machine
end

