-- ==== Sys2Proof/Laws/Frames.lean ====
section
/-! SUPPORT. What each shared operation can change: one equation for each, which says that every other field stays. -/

namespace Sys2Proof.Machine

/-! ### Channels and the meter: the channels, the meter and the attention record -/

theorem abortMeasurement_frame (s : State) : s.abortMeasurement =
    { s with chans := s.abortMeasurement.chans, meter := s.abortMeasurement.meter, att := s.abortMeasurement.att } := by
  unfold State.abortMeasurement; split <;> rfl

theorem abortMeasurementOn_frame (n : Fin 4) (s : State) : s.abortMeasurementOn n =
    { s with
      chans := (s.abortMeasurementOn n).chans, meter := (s.abortMeasurementOn n).meter, att := (s.abortMeasurementOn n).att } := by
  unfold State.abortMeasurementOn
  split
  · rfl
  · split
    · exact abortMeasurement_frame s
    · rfl

theorem moveChannel_frame (n : Fin 4) (st : ChannelState) (s : State) : s.moveChannel n st =
    { s with
      chans := (s.moveChannel n st).chans, meter := (s.moveChannel n st).meter, att := (s.moveChannel n st).att } := by
  unfold State.moveChannel
  split
  · rfl
  · rw [abortMeasurementOn_frame]; rfl

theorem moveByEvent_frame (n : Fin 4) (st : ChannelState) (s : State) : s.moveByEvent n st =
    { s with
      chans := (s.moveByEvent n st).chans, meter := (s.moveByEvent n st).meter, att := (s.moveByEvent n st).att } := by
  unfold State.moveByEvent
  split
  · rfl
  · rw [moveChannel_frame]; rfl

theorem startResuming_frame (n : Fin 4) (s : State) : s.startResuming n =
    { s with
      chans := (s.startResuming n).chans, meter := (s.startResuming n).meter, att := (s.startResuming n).att } := by
  unfold State.startResuming State.carrierOnEvent
  rw [moveChannel_frame]; rfl

theorem releaseChannel_frame (i : Nat) (n : Fin 4) (s : State) : s.releaseChannel i n =
    { s with
      chans := (s.releaseChannel i n).chans, meter := (s.releaseChannel i n).meter, att := (s.releaseChannel i n).att } := by
  unfold State.releaseChannel
  dsimp only
  split
  · split
    · rfl
    · rw [startResuming_frame]; rfl
  · split <;> rfl

/-- An operation of each channel in turn keeps what the operation of one channel keeps. -/
theorem eachChannel_frame {f : Fin 4 → State → State}
    (h : ∀ n s, f n s = { s with chans := (f n s).chans, meter := (f n s).meter, att := (f n s).att }) (s : State) :
    s.eachChannel f =
      { s with chans := (s.eachChannel f).chans, meter := (s.eachChannel f).meter, att := (s.eachChannel f).att } := by
  unfold State.eachChannel
  rw [h 3, h 2, h 1, h 0]

theorem release_frame (i : Nat) (s : State) : s.release i =
    { s with chans := (s.release i).chans, meter := (s.release i).meter, att := (s.release i).att } :=
  eachChannel_frame (fun n s => releaseChannel_frame i n s) s

theorem testDeferred_frame (n : Fin 4) (s : State) : s.testDeferred n =
    { s with chans := (s.testDeferred n).chans, meter := (s.testDeferred n).meter, att := (s.testDeferred n).att } := by
  unfold State.testDeferred
  dsimp only
  split
  · rw [startResuming_frame]; rfl
  · rfl

theorem boundaryMove_frame (n : Fin 4) (c : Channel) (s : State) : s.boundaryMove n c =
    { s with chans := (s.boundaryMove n c).chans, meter := (s.boundaryMove n c).meter, att := (s.boundaryMove n c).att } := by
  unfold State.boundaryMove
  split
  · rw [moveByEvent_frame]; rfl
  · split
    · rw [moveByEvent_frame]
    · split
      · rw [moveByEvent_frame]; rfl
      · split
        · rw [moveByEvent_frame]; rfl
        · split
          · rw [moveByEvent_frame]
          · rfl

theorem channelBoundary_frame (n : Fin 4) (s : State) : s.channelBoundary n =
    { s with chans := (s.channelBoundary n).chans, meter := (s.channelBoundary n).meter, att := (s.channelBoundary n).att } := by
  unfold State.channelBoundary
  dsimp only
  split
  · rw [boundaryMove_frame]; rfl
  · rw [boundaryMove_frame]; rfl

/-! ### The calendar: the calendar, the channels, the profiles, the meter and the attention record -/

theorem leaveRing_frame (i : Nat) (s : State) : s.leaveRing i =
    { s with cal := (s.leaveRing i).cal, chans := (s.leaveRing i).chans } := by
  unfold State.leaveRing; split <;> rfl

theorem joinRing_frame (i : Nat) (s : State) : s.joinRing i =
    { s with cal := (s.joinRing i).cal, att := (s.joinRing i).att } := by
  unfold State.joinRing; split <;> rfl

theorem removeEntry_frame (i : Nat) (s : State) : s.removeEntry i =
    { s with cal := (s.removeEntry i).cal, chans := (s.removeEntry i).chans } := by
  unfold State.removeEntry
  rw [leaveRing_frame]

theorem finishEntry_frame (e : Entry) (o : EntryOutcome) (s : State) : s.finishEntry e o =
    { s with cal := (s.finishEntry e o).cal, chans := (s.finishEntry e o).chans } := by
  unfold State.finishEntry
  dsimp only
  split
  · rw [removeEntry_frame, leaveRing_frame]; rfl
  · rw [leaveRing_frame]; rfl

theorem applyPayload_frame (p : Payload) (s : State) : s.applyPayload p = { s with profiles := (s.applyPayload p).profiles } := by
  unfold State.applyPayload; split <;> rfl

/-- Whatever changes at most the calendar, the channels, the profiles, the meter and the attention record. -/
abbrev State.calendarOnly (s t : State) : Prop :=
  t = { s with cal := t.cal, chans := t.chans, profiles := t.profiles, meter := t.meter, att := t.att }

theorem State.calendarOnly.trans {s t u : State} (h : s.calendarOnly t) (k : t.calendarOnly u) : s.calendarOnly u := by
  unfold State.calendarOnly at *
  rw [k, h]

theorem raise_calendarOnly (c : Cause) (s : State) : s.calendarOnly (s.raise c) := rfl

theorem modifyEntry_calendarOnly (i : Nat) (f : Entry → Entry) (s : State) : s.calendarOnly (s.modifyEntry i f) := rfl

theorem leaveRing_calendarOnly (i : Nat) (s : State) : s.calendarOnly (s.leaveRing i) := by
  unfold State.leaveRing; split <;> rfl

theorem joinRing_calendarOnly (i : Nat) (s : State) : s.calendarOnly (s.joinRing i) := by
  unfold State.joinRing; split <;> rfl

theorem removeEntry_calendarOnly (i : Nat) (s : State) : s.calendarOnly (s.removeEntry i) :=
  (leaveRing_calendarOnly i s).trans rfl

theorem finishEntry_calendarOnly (e : Entry) (o : EntryOutcome) (s : State) : s.calendarOnly (s.finishEntry e o) := by
  unfold State.finishEntry
  dsimp only
  split
  · exact ((leaveRing_calendarOnly _ _).trans (modifyEntry_calendarOnly _ _ _)).trans (removeEntry_calendarOnly _ _)
  · exact (leaveRing_calendarOnly _ _).trans (modifyEntry_calendarOnly _ _ _)

theorem applyPayload_calendarOnly (p : Payload) (s : State) : s.calendarOnly (s.applyPayload p) := by
  unfold State.applyPayload; split <;> rfl

theorem release_calendarOnly (i : Nat) (s : State) : s.calendarOnly (s.release i) := by
  unfold State.calendarOnly; rw [release_frame]

/-- A fold of operations that change at most these fields changes at most these fields. -/
theorem foldl_calendarOnly {α : Type} {f : State → α → State} (h : ∀ (s : State) (a : α), s.calendarOnly (f s a)) (l : List α) (s : State) :
    s.calendarOnly (l.foldl f s) := by
  induction l generalizing s with
  | nil => rfl
  | cons a l ih => exact (h s a).trans (ih _)

theorem removeWithdrawn_calendarOnly (s : State) : s.calendarOnly s.removeWithdrawn :=
  foldl_calendarOnly (fun s (e : Entry) => removeEntry_calendarOnly e.ident s) _ _

theorem onEntry_calendarOnly {move : Entry → State → State} (h : ∀ (e : Entry) (s : State), s.calendarOnly (move e s)) (i : Nat) (s : State) :
    s.calendarOnly (s.onEntry i move) := by
  unfold State.onEntry; split
  · exact h _ _
  · rfl

theorem openEntry_calendarOnly (now : Nat) (e : Entry) (s : State) : s.calendarOnly (s.openEntry now e) := by
  unfold State.openEntry; split
  · exact (modifyEntry_calendarOnly _ _ _).trans (joinRing_calendarOnly _ _)
  · rfl

theorem commitEntry_calendarOnly (now : Nat) (e : Entry) (s : State) : s.calendarOnly (s.commitEntry now e) := by
  unfold State.commitEntry; split <;> rfl

theorem effectEntry_calendarOnly (now : Nat) (e : Entry) (s : State) : s.calendarOnly (s.effectEntry now e) := by
  unfold State.effectEntry
  split
  · split
    · exact ((applyPayload_calendarOnly _ _).trans (finishEntry_calendarOnly _ _ _)).trans (raise_calendarOnly _ _)
    · exact (finishEntry_calendarOnly _ _ _).trans (raise_calendarOnly _ _)
    · split <;> exact (finishEntry_calendarOnly _ _ _).trans (raise_calendarOnly _ _)
    · split <;> exact (finishEntry_calendarOnly _ _ _).trans (raise_calendarOnly _ _)
    · exact ((leaveRing_calendarOnly _ _).trans (modifyEntry_calendarOnly _ _ _)).trans (raise_calendarOnly _ _)
  · rfl

theorem endOutage_calendarOnly (now : Nat) (e : Entry) (s : State) : s.calendarOnly (s.endOutage now e) := by
  unfold State.endOutage; split
  · exact ((finishEntry_calendarOnly _ _ _).trans (release_calendarOnly _ _)).trans (raise_calendarOnly _ _)
  · rfl

theorem passEntry_calendarOnly (now i : Nat) (s : State) : s.calendarOnly (s.passEntry now i) :=
  (((onEntry_calendarOnly (openEntry_calendarOnly now) i s).trans (onEntry_calendarOnly (commitEntry_calendarOnly now) i _)).trans
    (onEntry_calendarOnly (effectEntry_calendarOnly now) i _)).trans (onEntry_calendarOnly (endOutage_calendarOnly now) i _)

/-- The boundary pass. -/
theorem boundaryPass_calendarOnly (now : Nat) (s : State) : s.calendarOnly (s.boundaryPass now) :=
  (removeWithdrawn_calendarOnly s).trans (foldl_calendarOnly (fun s i => passEntry_calendarOnly now i s) _ _)

/-- The minute boundary. -/
theorem minuteBoundary_calendarOnly (now : Nat) (s : State) : s.calendarOnly (s.minuteBoundary now) := by
  refine (boundaryPass_calendarOnly now s).trans ?_
  unfold State.calendarOnly State.minuteBoundary
  rw [eachChannel_frame testDeferred_frame]

/-- The leap question. -/
theorem askLeap_calendarOnly (u : UtcSecond) (s : State) : s.calendarOnly (s.askLeap u) := by
  unfold State.askLeap; split <;> rfl

theorem recomputeEntry_calendarOnly (now : UtcSecond) (e : Entry) (s : State) : s.calendarOnly (s.recomputeEntry now e) := by
  unfold State.recomputeEntry
  dsimp only
  split
  · exact (modifyEntry_calendarOnly _ _ _).trans (joinRing_calendarOnly _ _)
  · exact (modifyEntry_calendarOnly _ _ _).trans (leaveRing_calendarOnly _ _)

theorem takeLate_calendarOnly (now : Nat) (e : Entry) (s : State) : s.calendarOnly (s.takeLate now e) := by
  unfold State.takeLate
  dsimp only
  refine State.calendarOnly.trans ?_ (raise_calendarOnly _ _)
  refine (modifyEntry_calendarOnly e.ident (fun e => { e with locked := true }) s).trans ?_
  split
  · split
    · exact finishEntry_calendarOnly _ _ _
    · exact (leaveRing_calendarOnly _ _).trans (modifyEntry_calendarOnly _ _ _)
  all_goals exact (applyPayload_calendarOnly _ _).trans (finishEntry_calendarOnly _ _ _)

theorem replaceInEffect_calendarOnly (now : UtcSecond) (e : Entry) (s : State) : s.calendarOnly (s.replaceInEffect now e) := by
  unfold State.replaceInEffect
  split
  · exact ((finishEntry_calendarOnly _ _ _).trans (release_calendarOnly _ _)).trans (raise_calendarOnly _ _)
  · split
    · rfl
    · exact ((modifyEntry_calendarOnly _ _ _).trans (recomputeEntry_calendarOnly _ _ _)).trans (release_calendarOnly _ _)

theorem procedureEntry_calendarOnly (i : Nat) (s : State) : s.calendarOnly (s.procedureEntry none i) := by
  unfold State.procedureEntry
  split
  · split
    · rfl
    · rfl
    · exact replaceInEffect_calendarOnly _ _ _
    all_goals
      simp only [Option.elim, Bool.false_eq_true, if_false]
      split
      · exact takeLate_calendarOnly _ _ _
      · exact recomputeEntry_calendarOnly _ _ _
  · rfl

/-- The discontinuity procedure of SET TIME and of an adoption. -/
theorem discontinuity_calendarOnly (s : State) : s.calendarOnly (s.discontinuity none) :=
  ((removeWithdrawn_calendarOnly s).trans (foldl_calendarOnly (fun s i => procedureEntry_calendarOnly i s) _ _)).trans rfl

/-! ### The start of a station second -/

/-- The discontinuity procedure of a warm start changes the timebase's label and the century too. -/
theorem procedureEntry_frame (l : Option UtcSecond) (i : Nat) (s : State) : s.procedureEntry l i =
    { s with
      cal := (s.procedureEntry l i).cal, chans := (s.procedureEntry l i).chans, profiles := (s.procedureEntry l i).profiles
      meter := (s.procedureEntry l i).meter, att := (s.procedureEntry l i).att, tb := (s.procedureEntry l i).tb
      ret := (s.procedureEntry l i).ret } := by
  unfold State.procedureEntry
  split
  · split
    · rfl
    · rfl
    · rw [replaceInEffect_calendarOnly]
    all_goals
      split
      · rw [takeLate_calendarOnly]; rfl
      · split
        · rw [takeLate_calendarOnly]
        · rw [recomputeEntry_calendarOnly]
  · rfl

theorem decideChannel_frame (now : Nat) (n : Fin 4) (s : State) : s.decideChannel now n =
    { s with chans := (s.decideChannel now n).chans } := by
  unfold State.decideChannel
  dsimp only
  split
  · split
    · rfl
    · split
      · rfl
      · unfold State.compose; dsimp only; split <;> rfl
  · rfl

theorem compositionInstant_frame (now : Nat) (s : State) : s.compositionInstant now =
    { s with chans := (s.compositionInstant now).chans } := by
  unfold State.compositionInstant State.eachChannel
  rw [decideChannel_frame, decideChannel_frame, decideChannel_frame, decideChannel_frame]

theorem deriveGrade_frame (s : State) : s.deriveGrade = { s with tb := s.deriveGrade.tb, att := s.deriveGrade.att } := by
  unfold State.deriveGrade; dsimp only; split <;> rfl

theorem select_frame (sel : Option Ref) (first : Bool) (s : State) : s.select sel first =
    { s with mon := (s.select sel first).mon, att := (s.select sel first).att } := by
  have hc : ∀ (r : Option Ref) (s : State), s.clearMismatch r = { s with mon := (s.clearMismatch r).mon } := by
    intro r s
    rcases r with _ | r
    · rfl
    · cases r <;> rfl
  unfold State.select
  dsimp only
  split
  · rfl
  · rw [hc sel, hc s.mon.selection]; rfl

theorem followSelection_frame (s : State) : s.followSelection =
    { s with tb := s.followSelection.tb, att := s.followSelection.att } := by
  unfold State.followSelection
  split
  · rfl
  · rw [deriveGrade_frame]
  · rw [deriveGrade_frame]
  · rfl

/-- The second evaluation. -/
theorem evaluate_frame (s : State) : s.evaluate =
    { s with tb := s.evaluate.tb, mon := s.evaluate.mon, att := s.evaluate.att } := by
  unfold State.evaluate
  dsimp only
  rw [followSelection_frame, select_frame]

/-- A second's correction touches the timebase's record alone. -/
theorem correct_frame (ns : Int) (s : State) : s.correct ns = { s with tb := (s.correct ns).tb } := rfl

theorem slew_frame (e : Int) (s : State) : s.slew e = { s with tb := (s.slew e).tb } := rfl

theorem setLength_frame (s : State) : s.setLength = { s with tb := s.setLength.tb } := by
  unfold State.setLength
  dsimp only
  split <;> rfl

/-- The start of a station second handed on. -/
theorem handOn_frame (u : UtcSecond) (s : State) : s.handOn u =
    { s with
      tb := (s.handOn u).tb, mon := (s.handOn u).mon, profiles := (s.handOn u).profiles, cal := (s.handOn u).cal
      chans := (s.handOn u).chans, meter := (s.handOn u).meter, att := (s.handOn u).att } := by
  unfold State.handOn
  dsimp only
  split
  · rw [minuteBoundary_calendarOnly, setLength_frame, evaluate_frame]
  · split
    · rw [compositionInstant_frame, setLength_frame, evaluate_frame]
    · rw [setLength_frame, evaluate_frame]

theorem endChannel_frame (n : Fin 4) (s : State) : s.endChannel n =
    { s with chans := (s.endChannel n).chans, meter := (s.endChannel n).meter, att := (s.endChannel n).att } := by
  unfold State.endChannel
  dsimp only
  split
  · rw [channelBoundary_frame]; rfl
  · rfl

/-- The fall into UNSET. -/
theorem fallUnset_frame (s : State) : s.fallUnset =
    { s with
      tb := s.fallUnset.tb, mon := s.fallUnset.mon, chans := s.fallUnset.chans, meter := s.fallUnset.meter
      att := s.fallUnset.att } := by
  unfold State.fallUnset
  dsimp only
  rw [eachChannel_frame endChannel_frame, deriveGrade_frame, select_frame, abortMeasurement_frame]

/-- Whatever changes at most the blocks: not the queue, the supplies, the pins, the FIN count, the link, SDO. -/
abbrev State.blocksOnly (s t : State) : Prop :=
  t = { s with
    tb := t.tb, ret := t.ret, mon := t.mon, profiles := t.profiles, cal := t.cal, chans := t.chans, meter := t.meter, att := t.att }

theorem State.blocksOnly.trans {s t u : State} (h : s.blocksOnly t) (k : t.blocksOnly u) : s.blocksOnly u := by
  unfold State.blocksOnly at *
  rw [k, h]

theorem State.calendarOnly.blocks {s t : State} (h : s.calendarOnly t) : s.blocksOnly t := by
  unfold State.blocksOnly
  unfold State.calendarOnly at h
  rw [h]

theorem setRef_blocksOnly (r : Ref) (x : RefRecord) (s : State) : s.blocksOnly (s.setRef r x) := by
  cases r <;> rfl

theorem abortMeasurement_blocksOnly (s : State) : s.blocksOnly s.abortMeasurement := by
  unfold State.blocksOnly; rw [abortMeasurement_frame]

theorem deriveGrade_blocksOnly (s : State) : s.blocksOnly s.deriveGrade := by
  unfold State.blocksOnly; rw [deriveGrade_frame]

theorem select_blocksOnly (sel : Option Ref) (first : Bool) (s : State) : s.blocksOnly (s.select sel first) := by
  unfold State.blocksOnly; rw [select_frame]

theorem handOn_blocksOnly (u : UtcSecond) (s : State) : s.blocksOnly (s.handOn u) := by
  unfold State.blocksOnly; rw [handOn_frame]

theorem fallUnset_blocksOnly (s : State) : s.blocksOnly s.fallUnset := by
  unfold State.blocksOnly; rw [fallUnset_frame]

/-- The next station second, counted or stepped to. -/
theorem nextStationSecond_blocksOnly (stepped : Bool) (u : UtcSecond) (s : State) : s.blocksOnly (s.nextStationSecond stepped u) := by
  unfold State.nextStationSecond
  dsimp only
  split
  · exact (askLeap_calendarOnly u s).blocks.trans (fallUnset_blocksOnly _)
  · refine State.blocksOnly.trans ?_ (handOn_blocksOnly _ _)
    refine (askLeap_calendarOnly u s).blocks.trans ?_
    split <;> rfl

/-- Station time placed. -/
theorem place_blocksOnly (u : UtcSecond) (s : State) : s.blocksOnly (s.place u) := by
  unfold State.place
  dsimp only
  refine State.blocksOnly.trans ?_ (handOn_blocksOnly _ _)
  refine State.blocksOnly.trans (t := State.discontinuity none _) ?_ rfl
  refine State.blocksOnly.trans ?_ (discontinuity_calendarOnly _).blocks
  refine State.blocksOnly.trans ?_ (deriveGrade_blocksOnly _)
  exact State.blocksOnly.trans (abortMeasurement_blocksOnly s) rfl

/-- An adoption. -/
theorem adopt_blocksOnly (r : Ref) (l : Label) (s : State) : s.blocksOnly (s.adopt r l) := by
  unfold State.adopt
  dsimp only
  refine State.blocksOnly.trans ?_ (place_blocksOnly _ _)
  exact ((select_blocksOnly _ _ _).trans (setRef_blocksOnly _ _ _)).trans rfl

/-- A measurement of the phase error. -/
theorem measure_blocksOnly (s : State) : s.blocksOnly s.measure := by
  unfold State.measure
  dsimp only
  split
  · rfl
  · split
    · unfold State.stepPhase
      dsimp only
      have h : s.blocksOnly (({ s.abortMeasurement with
          tb := { s.abortMeasurement.tb with remainder := 0, measured := none, phaseError := 0 }
          mon := { s.abortMeasurement.mon with firstEdge := false } } : State).deriveGrade) :=
        State.blocksOnly.trans (State.blocksOnly.trans (abortMeasurement_blocksOnly s) rfl) (deriveGrade_blocksOnly _)
      split
      · exact h
      · split
        · refine h.trans ?_
          unfold State.blocksOnly
          rw [setLength_frame, evaluate_frame]
        · exact h.trans (nextStationSecond_blocksOnly _ _ _)
    · refine State.blocksOnly.trans ?_ (deriveGrade_blocksOnly _)
      split
      · rfl
      · split <;> rfl

end Sys2Proof.Machine
end

