-- ==== Sys2Proof/Tests/Slice0.lean ====
section
/-! SUPPORT. Tests: the WellFormed smoke, one or two steps for each command, and for each statement with hypotheses a state and operands that meet them. -/

namespace Sys2Proof.Tests

set_option Elab.async false

open Sys2Proof.Machine

/-! ### Small states -/

/-- The state after a command that answers one. -/
def after (c : Instr) (s : State) : State :=
  match exec c s with
  | .next t => t
  | .fault _ | .refused _ => s

/-- The reply formed and not yet held. -/
def formed (s : State) : List Byte :=
  match s.link with
  | .working (.formed r) => r
  | .idle | .working (.adopting _) | .replyHeld _ => []

/-- 2035-06-30 23:50, ten minutes before the end of a month. -/
def night : Nat := minuteOf 2035 6 30 23 50

/-- FREE at a second, with P0 and P1 DEFINED and the flags clear. -/
def placed (u : UtcSecond) : State :=
  { State.reset with
    tb := { Timebase.start true with state := .free, time := some u, grade := 5 }
    profiles := Four.all { defined := true, labelCode := 1, offset := 4, summer := false }
    att := { flags := 0, enables := 0x1FFF, startKind := some .cold } }

/-- The evening before, at second 30. -/
def evening : State := placed ⟨night, 30⟩

/-- Channel `n` in a state. -/
def withChan (n : Fin 4) (st : ChannelState) (s : State) : State :=
  s.modifyChan n fun c =>
    { c with
      state := st
      heldSince := match st with | .held _ => some 0 | _ => none
      resumeStart := match st with | .resuming => some ⟨night, 0, 0⟩ | _ => none }

/-- The grade. -/
def withGrade (g : Nat) (s : State) : State := { s with tb := { s.tb with grade := g } }

/-- Reference A changed. -/
def withA (f : RefRecord → RefRecord) (s : State) : State := s.setRef .a (f (s.ref .a))

/-- An OFFSET CHANGE of P1 to +8 with the summer flag ON, auto-retire off. -/
def offsetEntry (ident instant : Nat) (st : EntryState) : Entry :=
  { ident, payload := .offsetChange 1 8 true, state := st, instant, lead := 2, level := 2, autoRetire := false
    locked := st != .scheduled, late := false, leapExecuted := false, outcome := if st = .done then some .onTime else none }

/-- An INTERRUPTION of channels 0 and 1 for 10 minutes. -/
def outageEntry (ident instant : Nat) (st : EntryState) : Entry :=
  { offsetEntry ident instant st with payload := .interruption 3 10 }

/-- An ADVISORY of channel 0, number 9. -/
def advisoryEntry (ident instant : Nat) (st : EntryState) : Entry :=
  { offsetEntry ident instant st with payload := .advisory 1 9, level := 6 }

/-- A LEAP entry at the end of June 2035. -/
def leapEntry (ident : Nat) (p : Payload) (st : EntryState) : Entry :=
  { offsetEntry ident (minuteOf 2035 7 1 0 0) st with payload := p, level := 1 }

/-- The calendar with the entries given, which stand in calendar order, and the ring their idents make. -/
def withEntries (es : List Entry) (s : State) : State :=
  { s with cal := { entries := es, ring := (es.filter fun e => e.state.inRing).map Entry.ident, nextIdent := 100 } }

/-- The fields of an OFFSET CHANGE of P1 to +8 ON at 2035-07-02 12:00, lead 2 hours, default level, auto-retire off. -/
def offsetFields : List Byte := [35, 7, 2, 12, 0, 2, 255, 0, 1, 8, 1, 0, 0, 0, 0]

/-! ### WellFormed -/

theorem test_wellformed_smoke :
    (Instr.unknownRequest 0x77 (.of 0 [])).wellFormed = true ∧ (Instr.unknownRequest 0x00 (.of 0 [])).wellFormed = false ∧
    (Instr.unknownRequest 0x49 (.of 0 [])).wellFormed = false ∧ Instr.stationSecond.wellFormed = true := by decide

theorem test_wellformed_refuses_code_zero :
    exec (.unknownRequest 0x00 (.of 0 [])) State.reset = .refused .notTheUnknownRequest := by rfl

theorem test_wellformed_refuses_a_known_code :
    exec (.unknownRequest 0x30 (.of 0 [])) State.reset = .refused .notTheUnknownRequest := by rfl

/-! ### The link and attention -/

theorem test_read_status :
    formed (after (.readStatus (.of 0 [])) State.reset) = [0x01, 0, 0x10, 0, 0x1F, 0xFF, 1, 0, 6, 0, 0, 0, 0, 0] := by decide

theorem test_clear_attention :
    (after (.clearAttention (.of 0 [0x10, 0x00])) State.reset).att.flags = 0 ∧
    formed (after (.clearAttention (.of 0 [0x20, 0x00])) State.reset) = [0x02, 3] := by decide

theorem test_set_attention_enables :
    (after (.setAttentionEnables (.of 0 [0x08, 0x01])) State.reset).att.enables = 0x801 ∧
    (after (.setAttentionEnables (.of 0 [0x00, 0x00])) State.reset).attnN = true := by decide

theorem test_unknown_request : formed (after (.unknownRequest 0x77 (.of 0 [1, 2, 3])) State.reset) = [0x77, 1] := by decide

/-- The first byte on SDI decides what a period is (R189): two requests, an unknown code, a reply read and a period without a whole byte. -/
theorem test_select_period :
    selectPeriod 5 7 [0x41, 2] 0 false = .carrierOn (.of 7 [2]) ∧ selectPeriod 5 7 [0x04] 0 false = .resetPart (.of 7 []) 5 ∧
    selectPeriod 5 7 [0x77, 1, 2] 0 false = .unknownRequest 0x77 (.of 7 [1, 2]) ∧ selectPeriod 5 7 [0x00, 9] 3 true = .replyRead 7 2 3 true ∧
    selectPeriod 5 7 [] 6 false = .replyRead 7 0 6 false := by decide

theorem test_completion_and_reply_read :
    let s := after (.requestCompletion 0) (after (.carrierOn (.of 0 [0])) evening)
    s.ready = true ∧ (after (.replyRead 0 3 0 false) s).sdo = [0x41, 0x00, 0x00] ∧ (after (.replyRead 0 3 0 false) s).ready = false := by
  decide +kernel

theorem test_reply_read_of_nothing : (after (.replyRead 0 2 0 false) State.reset).sdo = [0x00, 0xFF] := by decide

theorem test_overrun :
    let s := after (.readTime (.of 0 [])) evening
    (after (.carrierOn (.of 0 [0])) s).att.flags = 0x0800 ∧ (after (.carrierOn (.of 0 [0])) s).link = s.link := by decide +kernel

/-! ### Time -/

theorem test_set_time :
    let s := after (.setTime (.of 0 [35, 6, 30, 23, 50, 7])) State.reset
    s.tb.time = some ⟨night, 7⟩ ∧ s.tb.state = .free ∧ s.tb.grade = 5 ∧ formed s = [0x11, 0] := by decide +kernel

theorem test_read_time :
    formed (after (.readTime (.of 5000000 [])) evening) =
      [0x10, 0, 0x07, 0xF3, 6, 30, 23, 50, 30, 0x07, 0xA1, 0x20, 6, 1, 5, 0, 0, 0, 0, 0, 0, 0, 0, 0, 20] := by decide +kernel

theorem test_station_second_counts : (after .stationSecond evening).tb.time = some ⟨night, 31⟩ := by decide +kernel

theorem test_station_second_inserts :
    let s := after .stationSecond (withEntries [leapEntry 1 .leapInsert .committed] (placed ⟨night + 9, 59⟩))
    s.tb.time = some ⟨night + 9, 60⟩ ∧ s.cal.entries.map Entry.leapExecuted = [true] := by decide +kernel

theorem test_holdover_band :
    let s := { evening with tb := { evening.tb with state := .holdover, holdoverStart := some 0, grade := 2 }
                            ret := { evening.ret with runSeconds := 3601 } }
    (after .holdoverBandReached s).tb.grade = 3 ∧ (after .holdoverBandReached s).att.flags = 0x0080 := by decide +kernel

theorem test_run_second : (after (.runSecond 0) State.reset).ret.runSeconds = 1 := by decide

/-! ### References -/

/-- Reference A with an anchor 1 s ago and a message held for the second that follows its last label. -/
def good (s : State) : State :=
  withA (fun r => { r with
    anchor := some 0, lastLabel := some ⟨⟨35, 6, 30, 23, 50, 29⟩, true, false, false⟩
    held := some ⟨⟨35, 6, 30, 23, 50, 30⟩, true, false, false⟩ }) { s with fin := 10000000 }

theorem test_first_edge : ((after (.referenceEdge 47 .a .rising 9) evening).ref .a).anchor = some 5 := by decide +kernel

theorem test_good_edge_adopts :
    let s := after (.referenceEdge 0 .a .rising 9) (withA (fun r => { r with goodRun := 9 }) (good State.reset))
    s.tb.state = .locked ∧ s.tb.time = some ⟨night, 30⟩ ∧ s.mon.selection = some .a ∧ (s.ref .a).state = .qualified := by
  decide +kernel

theorem test_no_edge :
    let s := after (.noEdge .a) (good evening)
    (s.ref .a).anchor = some 1000000 ∧ (s.ref .a).lastVerdict = some .noEdge ∧ s.fin = 11000000 := by decide +kernel

theorem test_reference_character :
    ((after (.referenceCharacter 0 .a 0xF5 true true) evening).ref .a).assembly = [0xF5] ∧
    ((after (.referenceCharacter 0 .a 0xF5 false true) evening).ref .a).lineError = true := by decide +kernel

theorem test_late_message :
    let s := after (.lateMessage .a) (withA (fun r => { r with assembly := [0xF5, 35] }) (good evening))
    (s.ref .a).assembly = [] ∧ (s.ref .a).lineError = true := by decide +kernel

theorem test_configure_reference :
    let s := after (.configureReference (.of 0 [0, 0, 2, 1])) evening
    (s.ref .a).state = .off ∧ (s.ref .b).priority = 1 ∧ s.mon.revertive = true ∧ s.att.flags = 0x0100 := by decide +kernel

theorem test_adopt_reference :
    (after (.adoptReference (.of 0 [0])) (withA (fun r => { r with state := .qualified }) evening)).link = .working (.adopting .a) ∧
    formed (after (.adoptReference (.of 0 [0])) evening) = [0x12, 13] := by decide +kernel

theorem test_read_reference :
    formed (after (.readReference (.of 0 [1])) State.reset) =
      [0x14, 0, 1, 0, 2, 0, 1, 0, 0, 0, 0, 0, 0, 0, 0xFF, 0xFF, 0xFF, 0xFF, 0xFF, 0xFF, 0xFF, 0, 0] := by decide

/-! ### Profiles and the calendar -/

theorem test_define_profile :
    (after (.defineProfile (.of 0 [2, 3, 0xEA, 1])) State.reset).profiles.get 2 =
      { defined := true, labelCode := 3, offset := -22, summer := true } := by decide

theorem test_clear_profile :
    (after (.clearProfile (.of 0 [2])) evening).profiles.get 2 = Profile.unused ∧
    formed (after (.clearProfile (.of 0 [0])) evening) = [0x21, 12] := by decide +kernel

theorem test_read_profile :
    formed (after (.readProfile (.of 0 [1])) (withEntries [offsetEntry 7 (night + 90) .announcing] evening)) =
      [0x22, 0, 1, 1, 4, 0, 1] := by decide +kernel

theorem test_enter_change :
    let s := after (.enterChange (.of 0 (1 :: offsetFields))) evening
    formed s = [0x30, 0, 0, 1] ∧ s.cal.entries = [offsetEntry 1 (minuteOf 2035 7 2 12 0) .scheduled] ∧ s.cal.nextIdent = 2 := by
  decide +kernel

theorem test_enter_change_too_soon :
    formed (after (.enterChange (.of 0 [4, 35, 7, 1, 0, 0, 2, 3, 0, 0, 0, 0, 1, 0, 10, 0])) evening) = [0x30, 5] := by
  decide +kernel

theorem test_amend_change :
    let s := after (.amendChange (.of 0 (0 :: 1 :: offsetFields.set 4 15))) (after (.requestCompletion 0)
      (after (.enterChange (.of 0 (1 :: offsetFields))) evening))
    formed s = [0x31, 0] ∧ s.cal.entries.map Entry.instant = [minuteOf 2035 7 2 12 15] := by decide +kernel

theorem test_withdraw_change :
    let s := withEntries [offsetEntry 7 (night + 90) .announcing] evening
    let t := after (.withdrawChange (.of 0 [0, 7])) s
    t.cal.entries.map Entry.state = [.withdrawn] ∧ t.cal.ring = [] ∧ formed (after (.withdrawChange (.of 0 [0, 8])) s) = [0x32, 9] := by
  decide +kernel

theorem test_retire_change :
    let s := (withChan 0 (.held .calendar) (withEntries [outageEntry 7 (night - 5) .inEffect] evening)).modifyChan 0
      fun c => { c with heldBy := some 7 }
    let t := after (.retireChange (.of 0 [0, 7])) s
    t.cal.entries.map Entry.outcome = [some .cutShort] ∧ (t.chan 0).state = .resuming ∧ t.att.flags = 0x0020 := by
  decide +kernel

theorem test_read_change :
    formed (after (.readChange (.of 0 [0, 7])) (withEntries [offsetEntry 7 (night + 90) .announcing] evening)) =
      [0x34, 0, 0, 7, 1, 2, 35, 7, 1, 1, 20, 2, 2, 0, 1, 1, 8, 1, 0, 0, 0, 0, 0, 0, 0, 1] := by decide +kernel

theorem test_find_change :
    let s := withEntries [offsetEntry 7 (night + 90) .announcing, advisoryEntry 9 (night + 95) .announcing] evening
    formed (after (.findChange (.of 0 [35, 6, 30, 0, 0, 0x1F, 0x3F, 1])) s) = [0x35, 0, 2, 0, 9] := by decide +kernel

/-! ### Channels -/

theorem test_carrier_on :
    let s := after (.carrierOn (.of 0 [0])) evening
    (s.chan 0).state = .carrier ∧ s.carrierPin 0 = true ∧ (s.chan 0).history = [0] := by decide +kernel

theorem test_go_on_air :
    ((after (.goOnAir (.of 0 [0])) (withChan 0 .carrier (withGrade 2 evening))).chan 0).state = .cued ∧
    formed (after (.goOnAir (.of 0 [0])) (withChan 0 .carrier evening)) = [0x42, 19] := by decide +kernel

theorem test_hold :
    ((after (.hold (.of 0 [0])) (withChan 0 .onAir evening)).chan 0).holdPending = true ∧
    ((after (.hold (.of 0 [0])) (withChan 0 .quiet evening)).chan 0).state = .held .host := by decide +kernel

theorem test_resume :
    let s := withChan 0 (.held .host) evening
    formed (after (.resume (.of 0 [0])) { s with ret := { s.ret with runSeconds := 119 } }) = [0x44, 16] ∧
    ((after (.resume (.of 0 [0])) { s with ret := { s.ret with runSeconds := 120 } }).chan 0).state = .resuming := by decide +kernel

theorem test_carrier_off : ((after (.carrierOff (.of 0 [0])) (withChan 0 .cued evening)).chan 0).state = .off := by decide +kernel

theorem test_clear_fault :
    let s := withChan 0 .faulted evening
    ((after (.clearFault (.of 0 [0])) s).chan 0).state = .off ∧
    formed (after (.clearFault (.of 0 [0])) (after (.faultActive 100000 ⟨0, 10000⟩) s)) = [0x46, 18] := by decide +kernel

theorem test_configure_channel :
    let s := after (.configureChannel (.of 0 [2, 1, 1, 7, 3, 2, 5, 4, 0, 0x0C, 0x1C])) evening
    (s.chan 2).cfg = { link := 1, mode := .current, identity := 7, dwell := 3, doubt := 2, silence := 5
                       mask := ⟨false, false, true⟩, drive := 3100 } ∧ (s.chan 2).pendingAdvance = some 3100 := by decide +kernel

theorem test_read_channel :
    (formed (after (.readChannel (.of 0 [0])) State.reset)).length = 2 + 10 + 1 + 2 + 4 + 1 + 1 + 2 + 17 + 3 + 13 + 2 + 32 ∧
    (formed (after (.readChannel (.of 0 [0])) State.reset)).take 13 = [0x47, 0, 0, 0, 0, 5, 2, 5, 0, 0, 0, 0, 0] := by decide +kernel

theorem test_fault_active :
    let s := after (.faultActive 100000 ⟨1, 10000⟩) (withChan 1 .onAir evening)
    (s.chan 1).state = .faulted ∧ s.att.flags = 0x0020 ∧ s.carrierPin 1 = false ∧
    ((after (.faultActive 99999 ⟨1, 10000⟩) (withChan 1 .onAir evening)).chan 1).state = .onAir := by decide +kernel

theorem test_fault_inactive :
    let s := after (.faultActive 100000 ⟨1, 10000⟩) evening
    ((after (.faultInactive 100000 ⟨1, 10000⟩) s).chan 1).fault = false ∧ ((after (.faultInactive 99999 ⟨1, 10000⟩) s).chan 1).fault = true ∧
    ((after (.faultInactive 100000 ⟨1, 9999⟩) s).chan 1).fault = true := by decide +kernel

theorem test_composition_and_boundary :
    let s := withChan 0 .cued (withGrade 2 { evening with tb := { evening.tb with state := .holdover, holdoverStart := some 0, time := some ⟨night, 49⟩ } })
    let t := after .stationSecond s
    let u := after (.channelSecondStart 0) (t.modifyChan 0 fun c => { c with nextSecond := some ⟨night + 1, 0⟩ })
    (t.chan 0).staged.isSome = true ∧ (u.chan 0).state = .onAir ∧ (u.chan 0).key = true ∧ (u.chan 0).keyPlan.length = 3 := by
  decide +kernel

theorem test_keying_timed_change :
    let s := (withChan 0 .onAir evening).modifyChan 0 fun c => { c with key := true, keyPlan := [⟨1500000, false⟩] }
    ((after (.keyingTimedChange 0) s).chan 0).key = false ∧ (after (.keyingTimedChange 0) s).fin = 1500000 := by decide +kernel

theorem test_history_time_expiry :
    let s := { evening.modifyChan 0 (fun c => { c with history := [0, 1] }) with ret := { evening.ret with runSeconds := 1800 } }
    ((after (.historyTimeExpiry 0) s).chan 0).history = [1] := by decide +kernel

/-! ### The Delay Meter -/

/-- A SHORT measurement of channel 0 in CARRIER with seven seconds taken and the window of the eighth open. -/
def measuring : State :=
  { withChan 0 .carrier evening with
    meter := { working := some { channel := 0, long := false, apply := true, taken := 7, count := 6, sum := 14425, least := some 2390
                                 greatest := some 2420, window := some 0, sample := none }
               results := Four.all none } }

theorem test_measure_delay :
    (after (.measureDelay (.of 0 [0, 1, 0])) (withChan 0 .carrier evening)).meter.working = some (Working.fresh 0 true false) ∧
    formed (after (.measureDelay (.of 0 [1, 1, 0])) measuring) = [0x48, 20] := by decide +kernel

theorem test_monitor_edge_and_window_close :
    let s := after .sampleWindowClose (after (.monitorEdge 24100 0 .falling) measuring)
    s.meter.results.get 0 = some { outcome := .valid, long := false, count := 7, mean := 2405, spread := 30, applied := true } ∧
    (s.chan 0).inForce = 2405 ∧ s.att.flags = 0x0040 ∧ s.fin = 1000000 := by decide +kernel

theorem test_read_measurement : formed (after (.readMeasurement (.of 0 [1])) measuring) = [0x49, 0, 1, 0, 7, 0, 0, 0, 0, 0, 0, 0, 0, 0, 0] := by
  decide +kernel

/-! ### Supplies and starts -/

theorem test_vdd_loss :
    let s := after (.vddLoss 0 5 true) (withChan 0 .carrier evening)
    s.ret.loss = some { time := some ⟨night, 30, 0⟩, run := 0, fraction := 5 } ∧ s.carrierPin 0 = false ∧ s.attnN = true := by
  decide +kernel

theorem test_power_up_warm :
    let s := after (.vddLoss 0 0 true) evening
    let t := after (.powerUp 0 true) { s with ret := { s.ret with runSeconds := 61 } }
    t.tb.time = some ⟨night + 1, 31⟩ ∧ t.tb.state = .free ∧ t.att.startKind = some .warm := by decide +kernel

theorem test_power_up_cold :
    (after (.powerUp 0 true) (after .vbatLow (after (.vddLoss 0 0 true) evening))).att.startKind = some .cold := by decide +kernel

theorem test_reset_n :
    let s := after (.resetNLow 0 0) evening
    s.running = false ∧ (after (.resetNRelease 0) s).tb.time = some ⟨night, 30⟩ := by decide +kernel

theorem test_reset_part :
    (after (.resetPart (.of 0 []) 0) evening).att.startKind = some .warm ∧ (after (.resetPart (.of 0 []) 0) evening).link = .idle := by
  decide +kernel

theorem test_vbat_low : (after .vbatLow evening).ret.marker = true := by decide +kernel

/-! ### Witnesses: states and operands that meet the hypotheses of the statements, clause by clause, at the edges of their ranges -/

/-- Stopped by VDD's absence, and by RESET_N. -/
def dark : State := { State.reset with vdd := false }
def reset0 : State := { State.reset with resetN := false }

/-- The link WORKING with a reply formed. -/
def busy : State := { evening with link := .working (.formed [0x10, 0x00]) }

/-- A reply held. -/
def holding : State := { evening with link := .replyHeld [0x10, 0x00] }

theorem witness_StepRunsTheFrontCommand :
    ({ State.reset with pending := [.stationSecond, .vbatLow] } : State).pending = [.stationSecond, .vbatLow] ∧ State.reset.pending = [] := by
  decide

theorem witness_EveryCommandCompletes :
    (Instr.monitorEdge 0 3 .rising).wellFormed = true ∧ (Instr.unknownRequest 0xFF (.of 0 [])).wellFormed = true ∧
    (Instr.unknownRequest 0x01 (.of 0 [])).wellFormed = false := by decide

theorem witness_StoppedPartTakesNothing :
    dark.running = false ∧ reset0.running = false ∧ (Instr.stationSecond).wellFormed = true ∧ (Instr.unknownRequest 0x05 (.of 0 [])).wellFormed = true := by
  decide

theorem witness_OverrunDropsTheRequest :
    (Instr.readStatus (.of 3 [])).request? = some (0x01, .of 3 []) ∧ busy.running = true ∧ (Period.of 3 []).stale = false ∧
    busy.link = .working (.formed [0x10, 0x00]) ∧ ({ busy with link := .working (.adopting .b) } : State).link = .working (.adopting .b) := by
  decide +kernel

theorem witness_RequestPeriodTests :
    evening.listens ∧ holding.listens ∧ unknownCode 0x77 = true ∧ unknownCode 0xFF = true ∧ unknownCode 0x49 = false ∧
    (Instr.readMeasurement (.of 0 [])).request? = some (0x49, .of 0 []) ∧ ([] : List Byte).length + 1 ≠ totalLength 0x49 ∧
    (Instr.readMeasurement ⟨0, [0], 7, false⟩).request? = some (0x49, ⟨0, [0], 7, false⟩) ∧ (7 : Fin 8) ≠ 0 ∧
    (Instr.readTime ⟨5, [], 0, true⟩).request? = some (0x10, ⟨5, [], 0, true⟩) := by decide +kernel

theorem witness_RepliesAreReadAndHeld :
    holding.running = true ∧ holding.link = .replyHeld [0x10, 0x00] ∧ (∀ r, evening.link ≠ .replyHeld r) ∧ (∀ r, busy.link ≠ .replyHeld r) ∧
    busy.link = .working (.formed [0x10, 0x00]) ∧ busy.running = true :=
  ⟨rfl, rfl, nofun, nofun, rfl, rfl⟩

theorem witness_ReadStatusReports : State.reset.listens ∧ holding.listens := by decide +kernel

theorem witness_ClearAttentionClearsItsMask : State.reset.listens ∧ 0x2000 ≤ word16 0x20 0x00 ∧ word16 0x1F 0xFF < 0x2000 ∧ word16 0 0 < 0x2000 := by
  decide

theorem witness_SetEnablesReplacesThem :
    State.reset.listens ∧ 0x2000 ≤ word16 0x20 0x00 ∧ word16 0x1F 0xFF < 0x2000 ∧ State.reset.running = true ∧ dark.vdd = false ∧ dark.resetN = true ∧
    reset0.vdd = true ∧ reset0.resetN = false := by decide

theorem witness_AttnNLine : State.reset.running = true ∧ State.reset.attnN = false ∧ evening.attnN = true ∧ dark.running = false ∧ reset0.running = false := by
  decide +kernel

theorem witness_SetTimePlacesTheSecond :
    let l := { evening with tb := { evening.tb with state := .locked, grade := 0 } }
    let valid := fun y mo da h mi sec : Nat => y ≤ 199 ∧ 1 ≤ mo ∧ mo ≤ 12 ∧ 1 ≤ da ∧ da ≤ monthLength (2000 + y) mo ∧ h ≤ 23 ∧ mi ≤ 59 ∧ sec ≤ 59
    valid 0 1 1 0 0 0 ∧ valid 199 12 31 23 59 59 ∧ valid 0 2 29 0 0 0 ∧ ¬valid 100 2 29 0 0 0 ∧ ¬valid 200 1 1 0 0 0 ∧ ¬valid 0 1 1 0 0 60 ∧
    State.reset.listens ∧ l.listens ∧ l.tb.state = .locked ∧ (withChan 3 .resuming evening).listens ∧ ((withChan 3 .resuming evening).chan 3).state = .resuming ∧
    evening.tb.state ≠ .locked ∧ (∀ n : Fin 4, (evening.chan n).state = .off) ∧ evening.mon.a.candidate = false ∧ evening.mon.b.candidate = false := by
  decide +kernel

/-- A QUIET channel with a frame staged for the minute that follows, met by SET TIME. -/
theorem witness_SetTimePlacesTheSecond_quiet :
    let calm := withChan 1 .quiet { evening with tb := { evening.tb with time := some ⟨night, 49⟩, state := .holdover, grade := 2 } }
    let s := { after .stationSecond calm with pending := [] }
    let t := fun sec : Byte => after (.setTime (.of 0 [35, 6, 30, 23, 30, sec])) s
    s.listens ∧ s.tb.state ≠ .locked ∧ (s.chan 1).state = .quiet ∧ (s.chan 1).staged.isSome = true ∧ ((t 0).chan 1).staged = none ∧
    ((t 50).chan 1).quietDecided = true := by decide +kernel

theorem witness_ReadTimeReports :
    State.reset.listens ∧ evening.listens ∧ State.reset.tb.time = none ∧ evening.tb.time = some ⟨night, 30⟩ := by decide +kernel

/-- The last second of a kind before the end of June 2035, with a COMMITTED LEAP entry of a payload. -/
def leapNight (sec : Nat) (p : Payload) : State := withEntries [leapEntry 1 p .committed] (placed ⟨night + 9, sec⟩)

/-- The references with a selection, their candidacy, A's candidate run and the revertive flag; A has priority 1. -/
def ranked (sel : Option Ref) (a b : Bool) (run : Nat) (revertive : Bool) : State :=
  let rec_ := fun (q : Bool) (x : RefRecord) => { x with state := if q then .qualified else .acquiring, agreement := q, candidateRun := run }
  { evening with
    tb := { evening.tb with state := if sel = none then .free else .locked, grade := if sel = none then 5 else 0, phaseError := 11 }
    mon := { evening.mon with a := rec_ a evening.mon.a, b := rec_ b evening.mon.b, revertive := revertive, selection := sel } }

/-- The selection and the timebase state after the next second. -/
def evaluated (s : State) : Option Ref × TbState := ((after .stationSecond s).mon.selection, (after .stationSecond s).tb.state)

theorem witness_StationSecondLabels :
    let u := fun sec => (⟨night + 9, sec⟩ : UtcSecond)
    let leap := fun (k : Kind) (s : State) (u : UtcSecond) => ∃ e ∈ s.cal.entries, e.kind = k ∧ e.state = .committed ∧ e.instant = u.minute + 1
    (leapNight 57 .leapInsert).running = true ∧ (leapNight 57 .leapInsert).tb.time = some (u 57) ∧
    (endsMonth (night + 9) = true ∧ leap .leapDelete (leapNight 58 .leapDelete) (u 58) ∧ ¬leap .leapDelete (leapNight 58 .leapInsert) (u 58)) ∧
    (leap .leapInsert (leapNight 59 .leapInsert) (u 59) ∧ ¬leap .leapInsert (leapNight 59 .leapDelete) (u 59)) ∧
    (leapNight 60 .leapInsert).tb.time = some (u 60) ∧ endsMonth night = false ∧
    (placed ⟨minutesKept - 1, 59⟩).tb.time = some ⟨minutesKept - 1, 59⟩ := by decide +kernel

theorem witness_StationSecondLabels_selection :
    (ranked none true true 0 false).mon.sound ∧ (ranked none true true 0 false).tb.time = some ⟨night, 30⟩ ∧
    evaluated (ranked none true true 0 false) = (some .a, .locked) ∧ evaluated (ranked none false true 0 false) = (some .b, .locked) ∧
    evaluated (ranked none false false 0 false) = (none, .free) ∧
    evaluated (ranked (some .b) true true 59 true) = (some .a, .locked) ∧ evaluated (ranked (some .b) true true 58 true) = (some .b, .locked) ∧
    evaluated (ranked (some .b) true true 59 false) = (some .b, .locked) ∧ evaluated (ranked (some .a) false true 9 false) = (some .b, .locked) ∧
    evaluated (ranked (some .a) false false 9 false) = (none, .holdover) := by decide +kernel

theorem witness_StationSecondLength :
    let h := { evening with tb := { evening.tb with window := [50, -50, 7], remainder := 100 } }
    let l := fun m : Option Int =>
      let s := ranked (some .a) true true 0 false
      { s with tb := { s.tb with measured := m, remainder := -100 } }
    h.running = true ∧ h.tb.time = some ⟨night, 30⟩ ∧ (h.secondAfter ⟨night, 30⟩).minute < minutesKept ∧ h.tb.sound ∧ evening.tb.window = [] ∧
    (after .stationSecond h).tb.state ≠ .locked ∧ (l none).tb.sound ∧ (after .stationSecond (l none)).tb.state = .locked ∧
    (l (some (-180))).tb.sound ∧ (after .stationSecond (l (some (-180)))).tb.state = .locked ∧
    (after .stationSecond (l (some (-180)))).tb.window = [-50] := by decide +kernel

/-- HOLDOVER since run second 0, now at the run second given. -/
def heldOver (t : RunSec) : State :=
  { evening with tb := { evening.tb with state := .holdover, holdoverStart := some 0, grade := 2 }, ret := { evening.ret with runSeconds := t } }

theorem witness_RunSecondsAndHoldoverBands :
    let lost := { dark with ret := { dark.ret with marker := false } }
    (heldOver 3600).running = true ∧ (heldOver 3600).tb.state = .holdover ∧ (heldOver 3600).tb.holdoverStart = some 0 ∧
    ((heldOver 3600).ret.runSeconds - 0).toNat = 3600 ∧ ((heldOver 3601).ret.runSeconds - 0).toNat = 3601 ∧
    ((heldOver 28800).ret.runSeconds - 0).toNat = 28800 ∧ ((heldOver 28801).ret.runSeconds - 0).toNat = 28801 ∧
    ((heldOver 86400).ret.runSeconds - 0).toNat = 86400 ∧ ((heldOver 86401).ret.runSeconds - 0).toNat = 86401 ∧
    State.reset.ret.marker = true ∧ State.reset.running = true ∧ dark.ret.marker = true ∧ dark.running = false ∧ lost.ret.marker = false ∧
    lost.running = false := by decide +kernel

theorem witness_ConfigureReferenceWrites :
    let good := fun b line prio rev : Nat => b ≤ 1 ∧ line ≤ 3 ∧ 1 ≤ prio ∧ prio ≤ 2 ∧ rev ≤ 1
    let off := withA (fun r => { r with enabled := false, state := .off }) evening
    evening.listens ∧ off.listens ∧ good 0 0 1 0 ∧ good 1 3 2 1 ∧ ¬good 2 0 1 0 ∧ ¬good 0 4 1 0 ∧ ¬good 0 0 3 0 ∧ ¬good 0 0 0 0 ∧
    (evening.ref .a).enabled = true ∧ (0 : Byte).getLsbD 0 = false ∧ (off.ref .a).enabled = false ∧ (1 : Byte).getLsbD 0 = true ∧
    (3 : Byte).getLsbD 1 = true ∧ (evening.ref .a).polarity = .rising := by decide +kernel

theorem witness_AdoptReferenceWaits :
    let q := withA (fun r => { r with state := .qualified }) evening
    evening.listens ∧ (evening.ref .a).state ≠ .qualified ∧ q.listens ∧ (q.ref .a).state = .qualified ∧ (∀ n : Fin 4, (q.chan n).state = .off) ∧
    ((withChan 0 .cued q).ref .a).state = .qualified ∧ ((withChan 0 .cued q).chan 0).state = .cued ∧ (1 : Byte).toNat ≤ 1 ∧ 2 ≤ (2 : Byte).toNat := by
  decide +kernel

theorem witness_ReadReferenceReports : evening.listens ∧ (good evening).listens ∧ (1 : Byte).toNat ≤ 1 ∧ 2 ≤ (2 : Byte).toNat := by decide +kernel

theorem witness_FirstEdgeBecomesTheAnchor :
    let off := withA (fun r => { r with enabled := false, state := .off }) evening
    evening.running = true ∧ (off.ref .a).state = .off ∧ Edge.falling ≠ (evening.ref .a).polarity ∧ (4 : Nat) < 5 ∧ (evening.ref .a).state ≠ .off ∧
    Edge.rising = (evening.ref .a).polarity ∧ (evening.ref .a).anchor = none := by decide +kernel

/-- One message of the wrong second, one not vouched for, and a line error. -/
def wrong : State := withA (fun r => { r with held := some ⟨⟨35, 6, 30, 23, 50, 31⟩, true, false, false⟩ }) (good evening)
def unvouched : State := withA (fun r => { r with held := some ⟨⟨35, 6, 30, 23, 50, 30⟩, false, false, false⟩ }) (good evening)
def silentLine : State := withA (fun r => { r with held := none }) (good evening)

theorem witness_EdgeReachesItsVerdict :
    (good evening).running = true ∧ ((good evening).ref .a).state ≠ .off ∧ Edge.rising = ((good evening).ref .a).polarity ∧
    ((good evening).ref .a).anchor = some 0 ∧
    ((after (.referenceEdge 0 .a .rising 5) (good evening)).ref .a).lastVerdict = some .good ∧
    ((after (.referenceEdge 10000 .a .rising 5) (good evening)).ref .a).lastVerdict = some .good ∧
    ((after (.referenceEdge 10010 .a .rising 5) (good evening)).ref .a).lastVerdict = some .offTime ∧
    ((after (.referenceEdge 0 .a .rising 5) wrong).ref .a).lastVerdict = some .badLabel ∧
    ((after (.referenceEdge 0 .a .rising 5) unvouched).ref .a).lastVerdict = some .invalid ∧
    ((after (.referenceEdge 0 .a .rising 5) silentLine).ref .a).lastVerdict = some .noMessage ∧
    ((after (.referenceEdge 0 .a .rising 5) (withA (fun r => { r with lineError := true }) (good evening))).ref .a).lastVerdict =
      some .lineError := by decide +kernel

/-- LOCKED on A at a phase in FIN periods, A to be judged GOOD at once with the message of the second in progress, or of another. -/
def selectedA (phase : Nat) (first : Bool) : State :=
  let s := withA (fun r => { r with state := .qualified }) (good evening)
  { s with tb := { s.tb with state := .locked, elapsed := phase }, mon := { s.mon with selection := some .a, firstEdge := first } }
def freeA (m : Nat) : State :=
  withA (fun r => { r with state := .qualified, held := some ⟨⟨35, 6, 30, 23, m, 30⟩, true, false, false⟩, lastLabel := none }) (good evening)
def waitingA : State := { freeA 51 with link := .working (.adopting .a) }

/-- The hypotheses that the clauses share: A QUALIFIED, its edge 1 s after the anchor, a message vouched for. -/
def readyA (s : State) (m : Nat) : Bool :=
  let l : Label := ⟨35, 6, 30, 23, m, 30⟩
  s.running && !s.mon.revertive && decide ((s.ref .a).state = .qualified) && !(s.ref .a).carried && decide ((s.ref .a).polarity = .rising) &&
    decide ((s.ref .a).anchor = some 0) && decide (s.fin = 10000000) && s.tb.fselHigh && !(s.ref .a).lineError &&
    decide ((s.ref .a).held = some ⟨l, true, false, false⟩) && (s.ref .a).lastLabel.all (fun x => decide (x.advanced.label = l)) && l.valid
/-- The edge with e = +180 of section 2.6, met at a phase of 180 microseconds by a channel on the air: the second in progress takes +50. -/
theorem test_reference_edge_slews :
    let s := after (.referenceEdge 0 .a .rising 9) (withChan 0 .onAir (selectedA 1800 true))
    s.tb.phaseError = 180 ∧ s.tb.length = 10000500 ∧ s.tb.window = [50] ∧ s.tb.measured = none ∧ s.tb.elapsed = 1800 := by decide +kernel

/-- An edge whose step ends its own reference's selection: the leap check is made, and its flag goes with the selection (R33, log 18). -/
theorem test_reference_edge_leap_check :
    let announced := withA fun r => { r with held := some ⟨⟨35, 6, 30, 23, 50, 30⟩, true, true, false⟩ }
    let stays := after (.referenceEdge 0 .a .rising 9) (announced (selectedA 1009 false))
    let ends := after (.referenceEdge 0 .a .rising 9) (announced (selectedA 9998990 true))
    stays.mon.selection = some .a ∧ (stays.ref .a).leapMismatch = true ∧ stays.att.flags &&& Cause.leapDisagree.weight ≠ 0 ∧
    ends.mon.selection = none ∧ (ends.ref .a).leapMismatch = false ∧ ends.att.flags &&& Cause.leapDisagree.weight ≠ 0 := by decide +kernel

/-- No channel is switched on. -/
def allOff (s : State) : Bool := s.chans.toList.all fun c => decide (c.state = .off)

theorem witness_GoodEdgesMeasureOrAdopt :
    (readyA (selectedA 0 true) 50 && readyA (freeA 50) 50 && readyA (freeA 51) 51 && readyA (withChan 2 .quiet (freeA 51)) 51 &&
      readyA waitingA 51 && allOff (selectedA 1010 true) && allOff (freeA 51) && allOff waitingA) = true ∧
    (selectedA 0 true).link = .idle ∧ (selectedA 1009 true).phase = 100 ∧ (selectedA 1010 true).phase = 101 ∧
    (selectedA 9998990 true).phase = 999899 ∧ (selectedA 1010 true).tb.time = some ⟨night, 30⟩ ∧
    (freeA 50).mon.selection = none ∧ labelOfSecond ⟨night, 30⟩ = ⟨35, 6, 30, 23, 50, 30⟩ ∧ (freeA 51).tb.time = some ⟨night, 30⟩ ∧
    ((withChan 2 .quiet (freeA 51)).chan 2).state.inService = true ∧ (freeA 51).ret.century = 20 ∧ dateExists 2035 6 30 = true ∧
    waitingA.link = .working (.adopting .a) := by decide +kernel

theorem witness_GoodEdgesMeasureOrAdopt_measured :
    (readyA (selectedA 1009 false) 50 && readyA (selectedA 9998990 true) 50) = true ∧ (selectedA 1009 false).tb.sound ∧
    phaseErrorOf (selectedA 9998990 true).phase = -101 ∧ phaseErrorOf (selectedA 9999010 false).phase = -99 ∧
    0 < (selectedA 9998990 true).tb.length ∧ (∀ n : Fin 4, ((selectedA 9998990 true).chan n).inForce = 0) ∧
    ((selectedA 9998990 true).secondAfter ⟨night, 30⟩).minute < minutesKept := by decide +kernel

/-- A selected reference whose message announces a leap that no entry orders, measured and stepping; the same leap ordered. -/
theorem witness_GoodEdgesMeasureOrAdopt_leap :
    let announced := withA fun r => { r with held := some ⟨⟨35, 6, 30, 23, 50, 30⟩, true, true, false⟩ }
    let ordered := withEntries [leapEntry 1 .leapInsert .scheduled]
    let s := announced (selectedA 1009 false)
    s.mon.selection = some .a ∧ s.tb.state = .locked ∧ (s.ref .a).leapMismatch = false ∧
    monthEndInstant 2035 6 = minuteOf 2035 7 1 0 0 ∧ ((after (.referenceEdge 0 .a .rising 9) s).ref .a).leapMismatch = true ∧
    ((after (.referenceEdge 0 .a .rising 9) (ordered s)).ref .a).leapMismatch = false := by decide +kernel

/-- An adoption carried: with no channel in service it is taken, and with one QUIET it is dropped; a label of second 60 carries one. -/
theorem witness_GoodEdgesMeasureOrAdopt_carried :
    let carried := withA fun r => { r with carried := true }
    let leapSecond : Label := ⟨35, 6, 30, 23, 59, 60⟩
    let late := withA (fun r => { r with held := some ⟨leapSecond, true, false, false⟩ }) (freeA 51)
    let edge := after (.referenceEdge 0 .a .rising 9)
    let taken := edge (carried (freeA 50))
    let dropped := edge (withChan 2 .quiet (carried (freeA 50)))
    (carried (freeA 50)).mon.selection = none ∧ taken.mon.selection = some .a ∧ dropped.mon.selection = none ∧ (dropped.ref .a).carried = false ∧
    leapSecond.valid = true ∧ late.mon.selection = none ∧ ((edge late).ref .a).carried = true ∧
    (edge { late with link := .working (.adopting .a) }).link = .working (.adopting .a) ∧
    (edge (withChan 2 .cued waitingA)).link = .replyHeld [0x12, 14] := by decide +kernel

/-- The tenth GOOD verdict of an ACQUIRING reference, which agrees or is adopted, and a GOOD edge while the other reference is selected. -/
theorem witness_GoodEdgesMeasureOrAdopt_qualifies :
    let tenth := withA fun r => { r with state := .acquiring, goodRun := 9 }
    let other := fun s : State => { s with mon := { s.mon with selection := some .b } }
    let edge := after (.referenceEdge 0 .a .rising 9)
    ((tenth (freeA 50)).ref .a).state = .acquiring ∧ ((edge (tenth (freeA 50))).ref .a).agreement = true ∧
    (edge (tenth (freeA 51))).mon.selection = some .a ∧ (other (freeA 50)).mon.selection = some (otherRef .a) ∧
    ((edge (other (freeA 50))).ref .a).agreement = true ∧ (edge (other (freeA 50))).tb = (freeA 50).tb := by decide +kernel

/-- A second begun with the slew of an e below 0 and measured again at e of 0 or more: the window keeps the correction applied alone (R7, log 28). -/
theorem test_reference_edge_replaces_a_slew :
    let s := selectedA 200 false
    let s := { s with tb := { s.tb with window := [3, -40], slewed := true } }
    let t := after (.referenceEdge 0 .a .rising 9) s
    t.tb.window = [3, 20] ∧ t.tb.slewed = true ∧ t.tb.length = 10000200 := by decide +kernel

/-- A step back to the start of the second in progress makes a second evaluation (R8, R29): the reference that no longer agrees is deselected. -/
theorem test_reference_edge_restart_evaluates :
    let agreeing := after (.referenceEdge 0 .a .rising 9) (selectedA 1010 true)
    let wrongA := withA (fun r => { r with lastLabel := none, held := some ⟨⟨35, 6, 30, 23, 51, 30⟩, true, false, false⟩ }) (selectedA 1010 true)
    let t := after (.referenceEdge 0 .a .rising 9) wrongA
    agreeing.mon.selection = some .a ∧ agreeing.tb.elapsed = 0 ∧ (agreeing.ref .a).candidateRun = 1 ∧ agreeing.tb.time = some ⟨night, 30⟩ ∧
    t.mon.selection = none ∧ t.tb.state = .holdover := by decide +kernel

theorem witness_NoEdgeMovesTheAnchor :
    (good evening).running = true ∧ ((good evening).ref .a).state ≠ .off ∧ ((good evening).ref .a).anchor = some 0 := by decide +kernel

theorem witness_CharactersMakeMessages :
    let line := fun a : List Byte => withA (fun r => { r with assembly := a }) evening
    let ones := fun (v : Byte) (parity : Bool) => ((List.range 8).filter fun k => v.getLsbD k).length + (if parity then 1 else 0)
    evening.running = true ∧ ((withA (fun r => { r with state := .off }) evening).ref .a).state = .off ∧ (evening.ref .a).state ≠ .off ∧
    ones 0xF5 false % 2 = 0 ∧ ones 0xF5 true % 2 = 1 ∧ (evening.ref .a).assembly = [] ∧ ((line [0xF5]).ref .a).assembly.length = 1 ∧
    ((line [0xF5, 1, 1, 1, 1, 1, 1]).ref .a).assembly.length = 7 ∧ ((line [0xF5, 1, 1, 1, 1, 1, 1, 1]).ref .a).assembly.length = 8 ∧
    ((line [0xF5, 35, 6, 30, 23, 50, 30, 1, 0]).ref .a).assembly = [0xF5, 35, 6, 30, 23, 50, 30, 1, 0] ∧
    (35 ^^^ 6 ^^^ 30 ^^^ 23 ^^^ 50 ^^^ 30 ^^^ 1 ^^^ 0 : Byte) = 0x01 ∧
    ((withA (fun r => { r with assembly := [0xF5] }) (good evening)).ref .a).anchor = some 0 ∧
    (∃ a ∈ ((good evening).ref .a).anchor, (a + 950000) * 10 < (good evening).fin + 0) ∧
    ¬(∃ a ∈ ((good evening).ref .a).anchor, (a + 950000) * 10 < 9500000) ∧ ¬(∃ a ∈ (evening.ref .a).anchor, (a + 950000) * 10 < 9500001) := by
  decide +kernel

theorem witness_DefineProfileWrites :
    let good := fun (i label : Nat) (offset : Byte) (summer : Nat) => i ≤ 3 ∧ label ≤ 3 ∧ -48 ≤ offset.toInt ∧ offset.toInt ≤ 56 ∧ summer ≤ 1
    evening.listens ∧ good 0 0 0xD0 0 ∧ good 3 3 56 1 ∧ ¬good 3 3 57 1 ∧ ¬good 3 3 0xCF 1 ∧ ¬good 4 0 0 0 ∧
    ((withChan 2 .quiet evening).chan 2).cfg.link.val = 0 ∧ ((withChan 2 .quiet evening).chan 2).state.inService = true ∧
    (∀ n : Fin 4, (evening.chan n).state.inService = false) := by decide +kernel

theorem witness_ClearProfileClears :
    let s := withEntries [offsetEntry 7 (night + 90) .announcing] evening
    evening.listens ∧ s.listens ∧ (evening.chan 0).cfg.link.val = 0 ∧ (∀ n : Fin 4, (s.chan n).cfg.link.val ≠ 1) ∧
    s.cal.entries = [offsetEntry 7 (night + 90) .announcing] ∧ (offsetEntry 7 (night + 90) .announcing).payload = .offsetChange 1 8 true ∧
    (offsetEntry 7 (night - 90) .done).state = .done := by decide +kernel

theorem witness_ReadProfileReports : evening.listens ∧ ((3 : Fin 4).val = (3 : Byte).toNat) ∧ 4 ≤ (4 : Byte).toNat := by decide +kernel

/-- ENTER CHANGE's fields for an OFFSET CHANGE of P1 at an hour and minute of 2035-07-01, lead 1 hour. -/
def fieldsAt (h mi : Byte) : List Byte := [35, 7, 1, h, mi, 1, 255, 0, 1, 8, 1, 0, 0, 0, 0]
/-- Those fields as a record. -/
def recordAt (h mi : Byte) : ChangeFields := ⟨35, 7, 1, h, mi, 1, 255, 0, 1, 8, 1, 0, 0, 0, 0⟩
/-- Their terms. -/
def termsAt (h mi : Nat) : Terms := ⟨minuteOf 2035 7 1 h mi, 1, .offsetChange 1 8 true⟩
/-- 58 minutes before 01:00 less a lead of 1 hour: the last second at which 01:00 is not TOO SOON. -/
def lastChance : State := placed ⟨minuteOf 2035 6 30 23 58, 0⟩

theorem witness_EnterChangeAdds :
    changeFields? (fieldsAt 1 0) = some (recordAt 1 0) ∧ kind? 1 = some .offsetChange ∧ (recordAt 1 0).terms? .offsetChange = some (termsAt 1 0) ∧
    level? .offsetChange (recordAt 1 0).level = some 2 ∧ yesNo? (recordAt 1 0).auto = some false ∧ lastChance.listens ∧ lastChance.cal.sound ∧
    lastChance.tb.time = some ⟨minuteOf 2035 6 30 23 58, 0⟩ ∧ lastChance.tb.grade ≠ 6 ∧ lastChance.lacksProfile (termsAt 1 0).payload = false ∧
    (⟨minuteOf 2035 6 30 23 58, 0⟩ : UtcSecond).linear + 3600 * (termsAt 1 0).lead + 120 = (termsAt 1 0).instant * 60 ∧
    (termsAt 1 0).instant * 60 ≤ (⟨minuteOf 2035 6 30 23 58, 0⟩ : UtcSecond).linear + 34560000 ∧ lastChance.cal.entries = [] :=
  ⟨rfl, rfl, by decide +kernel⟩

/-- The next idents held by DONE entries: 65,535 and 1 are passed over, and the entry takes 2. -/
theorem witness_EnterChangeAdds_ident :
    let s := withEntries [advisoryEntry 1 (night - 9) .done, advisoryEntry 65535 (night - 8) .done] lastChance
    let s := { s with cal := { s.cal with nextIdent := 65535 } }
    let place := fun j : Nat => (s.cal.nextIdent - 1 + j) % 65535 + 1
    s.cal.sound ∧ s.listens ∧ (∀ e ∈ s.cal.entries, (termsAt 1 0).conflictsWith e = false) ∧ place 0 = 65535 ∧ place 1 = 1 ∧ place 2 = 2 ∧
    formed (after (.enterChange (.of 0 (1 :: fieldsAt 1 0))) s) = [0x30, 0, 0, 2] := by decide +kernel

/-- Thirty-two DONE advisories, the full calendar. -/
def full : State :=
  withEntries ((List.range 32).map fun i => { advisoryEntry (i + 1) (night - 100 + i) .done with outcome := some .onTime }) lastChance

theorem witness_EnterChangeRefusals :
    let clash := withEntries [offsetEntry 7 (minuteOf 2035 7 1 1 30) .scheduled] lastChance
    let far := placed ⟨minuteOf 2035 7 1 1 0 - 576001, 0⟩
    changeFields? (fieldsAt 1 0) = some (recordAt 1 0) ∧ kind? 0 = none ∧ kind? 6 = none ∧ kind? 1 = some .offsetChange ∧
    (recordAt 1 1).terms? .offsetChange = none ∧ level? .offsetChange 8 = none ∧ yesNo? 2 = none ∧ (recordAt 1 0).terms? .offsetChange = some (termsAt 1 0) ∧
    State.reset.tb.grade = 6 ∧ lastChance.tb.grade ≠ 6 ∧ (placed ⟨minuteOf 2035 6 30 23 58, 1⟩).tb.time = some ⟨minuteOf 2035 6 30 23 58, 1⟩ ∧
    (termsAt 1 0).instant * 60 < minuteOf 2035 6 30 23 58 * 60 + 1 + 3600 + 120 ∧ far.tb.time = some ⟨minuteOf 2035 7 1 1 0 - 576001, 0⟩ ∧
    (minuteOf 2035 7 1 1 0 - 576001 + 576000) * 60 < (termsAt 1 0).instant * 60 ∧
    ({ lastChance with profiles := Four.all Profile.unused } : State).lacksProfile (termsAt 1 0).payload = true ∧
    clash.cal.entries.any (termsAt 1 0).conflictsWith = true ∧ full.cal.entries.any (termsAt 1 0).conflictsWith = false ∧ 32 ≤ full.cal.entries.length ∧
    full.listens ∧ clash.listens ∧ far.listens :=
  ⟨rfl, by decide +kernel⟩

theorem witness_AmendChangeRewrites :
    let s := fun st => withEntries [offsetEntry 7 (minuteOf 2035 7 1 3 0) st] lastChance
    let f : ChangeFields := ⟨35, 7, 1, 3, 0, 2, 0, 1, 1, 8, 1, 0, 0, 0, 0⟩
    changeFields? [35, 7, 1, 3, 0, 2, 0, 1, 1, 8, 1, 0, 0, 0, 0] = some f ∧ word16 0 7 = 7 ∧
    (∀ st ∈ [EntryState.scheduled, .announcing, .done, .withdrawn], (s st).cal.sound ∧ (s st).listens) ∧
    f.terms? .offsetChange = some ⟨minuteOf 2035 7 1 3 0, 2, .offsetChange 1 8 true⟩ ∧ level? .offsetChange 8 = none ∧
    (recordAt 3 15).terms? .offsetChange = some (termsAt 3 15) ∧ (offsetEntry 7 (minuteOf 2035 7 1 3 0) .announcing).locked = true ∧
    (offsetEntry 7 (minuteOf 2035 7 1 3 0) .scheduled).locked = false ∧ lastChance.checkTerms (termsAt 3 15) [] = none ∧
    (s .scheduled).checkTerms (termsAt 3 15) [] = none :=
  ⟨rfl, by decide +kernel⟩

/-- An unlocked entry amended: each check that can fail, met in a state. -/
theorem witness_AmendChangeRewrites_refusals :
    let e := offsetEntry 7 (minuteOf 2035 7 1 3 0) .scheduled
    let s := withEntries [e] lastChance
    let t := termsAt 1 0
    let clash := withEntries [offsetEntry 6 (minuteOf 2035 7 1 1 30) .scheduled, e] lastChance
    let now := minuteOf 2035 6 30 23 58
    let early := withEntries [e] (placed ⟨now, 1⟩)
    let far := withEntries [e] (placed ⟨minuteOf 2035 7 1 1 0 - 576001, 0⟩)
    (recordAt 1 0).terms? .offsetChange = some t ∧ e.locked = false ∧ (recordAt 1 1).terms? .offsetChange = none ∧
    t ≠ ⟨e.instant, e.lead, e.payload⟩ ∧ s.cal.sound ∧ s.listens ∧ (withGrade 6 s).tb.grade = 6 ∧
    ({ s with profiles := Four.all Profile.unused } : State).lacksProfile t.payload = true ∧
    s.checkTerms t [] = none ∧ early.checkTerms t [] = some .tooSoon ∧ far.checkTerms t [] = some .tooFar ∧ clash.cal.sound ∧
    clash.checkTerms t (clash.cal.entries.filter fun x => x.ident ≠ 7) = some .conflict := by decide +kernel

theorem witness_WithdrawChangeByState :
    let s := fun st => withEntries [outageEntry 7 (night + 90) st] evening
    (∀ st ∈ [EntryState.scheduled, .announcing, .committed, .inEffect, .done, .withdrawn], (s st).cal.sound ∧ (s st).listens) ∧ word16 0 7 = 7 ∧
    (∀ e ∈ (s .scheduled).cal.entries, e.ident ≠ word16 0 0) := by decide +kernel

theorem witness_RetireChangeByState :
    let s := (withChan 0 (.held .calendar) (withEntries [outageEntry 7 (night - 5) .inEffect] evening)).modifyChan 0 fun c => { c with heldBy := some 7 }
    let spent := s.modifyChan 0 fun c => { c with history := [0, 0, 0, 0] }
    s.listens ∧ s.cal.sound ∧ (s.chan 0).state = .held .calendar ∧ (s.chan 0).heldBy = some 7 ∧ (s.chan 0).history.length < 4 ∧
    4 ≤ (spent.chan 0).history.length ∧ spent.cal.sound ∧ (s.chan 1).heldBy ≠ some 7 ∧ (s.chan 1).claim ≠ some 7 ∧ (s.chan 1).state ≠ .carrier := by
  decide +kernel

/-- A release that meets a claim, and the boundary after it. -/
theorem witness_RetireChangeByState_claim :
    let s := (withChan 1 .onAir (withEntries [outageEntry 7 (night - 5) .inEffect] evening)).modifyChan 1 fun c =>
      { c with claim := some 7, nextSecond := some ⟨night + 1, 0⟩ }
    s.listens ∧ s.cal.sound ∧ (s.chan 1).claim = some 7 ∧ (s.chan 1).heldBy ≠ some 7 ∧ (s.chan 1).staged = none ∧
    (s.chan 1).quietDecided = false ∧ (s.chan 1).holdPending = false ∧
    ((after (.channelSecondStart 1) (after (.retireChange (.of 0 [0, 7])) s)).chan 1).state = .cued := by decide +kernel

theorem witness_ReadChangeReports :
    let s := withEntries [offsetEntry 7 (night + 90) .announcing, advisoryEntry 9 (night + 95) .scheduled] evening
    s.listens ∧ s.cal.sound ∧ word16 0 7 = 7 ∧ 7 ∈ s.cal.ring ∧ 9 ∉ s.cal.ring ∧ (∀ e ∈ s.cal.entries, e.ident ≠ word16 0 8) := by decide +kernel

theorem witness_FindChangeSearches :
    let valid := fun y mo da h mi skip : Nat => y ≤ 199 ∧ 1 ≤ mo ∧ mo ≤ 12 ∧ 1 ≤ da ∧ da ≤ monthLength (2000 + y) mo ∧ h ≤ 23 ∧ mi ≤ 59 ∧ skip ≤ 31
    evening.listens ∧ valid 0 1 1 0 0 0 ∧ valid 199 12 31 23 59 31 ∧ ¬valid 0 1 1 0 0 32 ∧ ¬valid 0 13 1 0 0 0 := by decide +kernel

/-- One entry of each state that a boundary pass may move, around 23:50. -/
def busyCalendar : State :=
  withEntries [advisoryEntry 3 night .committed, { offsetEntry 4 night .announcing with autoRetire := true }, offsetEntry 5 (night + 60) .announcing,
    offsetEntry 6 (night + 120) .scheduled, outageEntry 7 (night + 121) .withdrawn] evening

/-- At the end of June 2035: a leap, an interruption that begins, one that ends ten minutes after the instant before it. -/
def busyJuly : State :=
  let july := minuteOf 2035 7 1 0 0
  withEntries [outageEntry 2 (july - 10) .inEffect, leapEntry 3 .leapInsert .committed, outageEntry 4 july .committed] evening

theorem witness_BoundaryPassMovesEntries :
    let july := minuteOf 2035 7 1 0 0
    busyCalendar.cal.sound ∧ ((busyCalendar.boundaryPass night).cal.entries.map fun e => (e.ident, e.state)) =
      [(3, .done), (5, .committed), (6, .announcing)] ∧ (busyCalendar.boundaryPass night).cal.ring = [5, 6] ∧
    ((withEntries [offsetEntry 5 night .announcing] evening).boundaryPass night).profiles.get 1 =
      { defined := true, labelCode := 1, offset := 8, summer := true } ∧
    busyJuly.cal.sound ∧ ((busyJuly.boundaryPass july).cal.entries.map fun e => (e.ident, e.state, e.outcome)) =
      [(2, .done, some .onTime), (3, .done, some .overtaken), (4, .inEffect, none)] ∧
    (busyJuly.boundaryPass july).att.flags = 0x000E := by decide +kernel

/-- Channel 0 held by the outage of `busyJuly` that ends, with a history. -/
def heldInJuly (history : List RunSec) : State :=
  (withChan 0 (.held .calendar) busyJuly).modifyChan 0 fun c => { c with heldBy := some 2, history := history }

theorem witness_BoundaryPassMovesEntries_release :
    let july := minuteOf 2035 7 1 0 0
    let t := fun h => ((heldInJuly h).boundaryPass july).chan 0
    let last := fun h => { heldInJuly h with tb := { evening.tb with time := some ⟨july - 1, 60⟩ } }
    let deferred := fun h => (last h).modifyChan 0 fun c => { c with heldBy := none, resumeDeferred := true }
    (t [0, 0, 0]).state = .resuming ∧ (t [0, 0, 0, 0]).resumeDeferred = true ∧ (heldInJuly []).cal.sound ∧
    (deferred []).running = true ∧ (deferred []).tb.sound ∧ (deferred []).secondAfter ⟨july - 1, 60⟩ = ⟨july, 0⟩ ∧ july < minutesKept ∧
    ((after .stationSecond (deferred [])).chan 0).state = .resuming ∧
    ((after .stationSecond (deferred [0, 0, 0, 0])).chan 0).state = .held .calendar := by decide +kernel

theorem witness_BoundaryPassMovesEntries_claim :
    let july := minuteOf 2035 7 1 0 0
    let s := (withChan 1 .quiet (heldInJuly [])).modifyChan 1 fun c => { c with claim := some 2 }
    s.cal.sound ∧ (s.chan 1).state ≠ .held .calendar ∧ ((s.boundaryPass july).chan 1).claim = none ∧
    ((s.boundaryPass july).chan 1).claimCancelled = true := by decide +kernel

/-- The state after its procedure at a jump of time to `u`. -/
def jumpedTo (u : UtcSecond) (s : State) : State := { s with tb := { evening.tb with time := some u } }.discontinuity none

theorem witness_ProcedurePlacesEveryEntry :
    let t := jumpedTo ⟨night + 65, 0⟩ busyCalendar
    busyCalendar.cal.sound ∧ busyCalendar.cal.marksFit ∧ busyCalendar.tb.time = some ⟨night, 30⟩ ∧
    (t.cal.entries.map fun e => (e.ident, e.state, e.outcome)) =
      [(3, .done, some .overtaken), (5, .done, some .overtaken), (6, .committed, none)] ∧
    t.profiles.get 1 = { defined := true, labelCode := 1, offset := 8, summer := true } := by decide +kernel

theorem witness_ProcedurePlacesEveryEntry_july :
    let july := minuteOf 2035 7 1 0 0
    let entries := fun u => (jumpedTo ⟨u, 0⟩ busyJuly).cal.entries
    busyJuly.cal.sound ∧ busyJuly.cal.marksFit ∧
    ((entries (july + 3)).map fun e => (e.ident, e.state, e.late)) = [(2, .done, false), (3, .done, false), (4, .inEffect, true)] ∧
    ((entries (july - 20)).map fun e => (e.ident, e.state)) = [(2, .committed), (3, .committed), (4, .committed)] := by decide +kernel

theorem witness_ProcedurePlacesEveryEntry_setTime :
    busyCalendar.listens ∧ busyCalendar.tb.state ≠ .locked ∧ (∀ n : Fin 4, (busyCalendar.chan n).state = .off) ∧
    (after (.setTime (.of 0 [35, 7, 1, 0, 0, 0])) busyCalendar).tb.time = some ⟨minuteOf 2035 7 1 0 0, 0⟩ := by decide +kernel

theorem witness_LockedTermsStay :
    let s := { busyCalendar with pending := [.stationSecond] }
    s.cal.sound ∧ step s = .next (after .stationSecond busyCalendar) ∧ ∃ e ∈ s.cal.entries, e.locked = true ∧
      ∃ x ∈ (after .stationSecond busyCalendar).cal.entries, x.ident = e.ident :=
  ⟨by decide +kernel, rfl, by decide +kernel⟩

theorem witness_CalendarStaysSound :
    let s := { busyCalendar with pending := [.stationSecond] }
    s.cal.sound ∧ s.cal.marksFit ∧ step s = .next (after .stationSecond busyCalendar) := ⟨by decide +kernel, by decide +kernel, rfl⟩

theorem witness_EntryMarksStayFit :
    let s := { busyCalendar with pending := [.withdrawChange (.of 0 [0, 5])] }
    s.cal.sound ∧ s.cal.marksFit ∧ step s = .next (after (.withdrawChange (.of 0 [0, 5])) busyCalendar) := ⟨by decide +kernel, by decide +kernel, rfl⟩

theorem witness_NoFreeCandidateIsMoreUrgent :
    let cands : List Candidate := [⟨32, 3⟩, ⟨33, 4⟩, ⟨34, 5⟩, ⟨35, 6⟩, ⟨36, 1⟩, ⟨31, 2⟩, ⟨37, 7⟩]
    let a : Arbiter := { inService := some ⟨31, 2⟩, stack := [⟨32, 1⟩, ⟨33, 2⟩, ⟨34, 3⟩, ⟨35, 1⟩], mark := some 35 }
    (cands.map Candidate.ident).Nodup ∧ a.stack.length ≤ 4 ∧ (∀ c ∈ cands, c.level ≤ 7) ∧
    (a.chosen cands 4).carry = { inService := some ⟨36, 3⟩, stack := [⟨31, 2⟩, ⟨32, 1⟩, ⟨33, 2⟩, ⟨34, 3⟩], mark := some 36 } := by decide

theorem witness_FramesKeepTheTable :
    (frameSymbols 2 0 false (civilOf (night : Int)) false (some .leapInsert) 2 7 ⟨false, false, false⟩).length = 61 ∧
    (frameSymbols 2 0 false (civilOf (night : Int)) false (some .leapDelete) 2 7 ⟨true, true, true⟩).length = 59 ∧
    (frameSymbols 5 15 true (civilOf (night : Int)) true none 3 15 ⟨false, false, false⟩).length = 60 := by decide +kernel

/-- Second 49 with grade 2, before a composition instant. -/
def beforeFifty : State := { heldOver 10 with tb := { (heldOver 10).tb with time := some ⟨night, 49⟩ } }

theorem witness_CompositionDecidesEachChannel :
    let s := withChan 0 .cued (withChan 1 .quiet (withChan 2 .resuming (withEntries [outageEntry 7 (night + 1) .committed] beforeFifty)))
    s.running = true ∧ s.tb.time = some ⟨night, 49⟩ ∧ night < minutesKept ∧ s.interruptionClaim 0 (night + 1) = some 7 ∧
    s.interruptionClaim 2 (night + 1) = none ∧ (s.chan 2).resumeStart = some ⟨night, 0, 0⟩ ∧ (s.chan 3).state = .off ∧
    ((after .stationSecond s).chan 2).staged.isSome = true ∧
    ((after .stationSecond (withGrade 5 (withChan 1 .quiet { evening with tb := { evening.tb with time := some ⟨night, 49⟩ } }))).chan 1).quietDecided = true := by
  decide +kernel

/-- A frame with a notice, and one whose NOTICE segment is suppressed. -/
theorem witness_CompositionDecidesEachChannel_notice :
    let s := withChan 0 .cued (withEntries [advisoryEntry 7 (night + 30) .announcing] beforeFifty)
    let masked := s.modifyChan 0 fun c => { c with cfg := { c.cfg with mask := ⟨true, false, false⟩ } }
    (s.chan 0).cfg.mask.notice = false ∧ (((after .stationSecond s).chan 0).staged.bind Frame.notice) = some ⟨7, 5, 9⟩ ∧
    ((after .stationSecond s).chan 0).arbiter.inService = some ⟨7, 4⟩ ∧
    (masked.chan 0).cfg.mask.notice = true ∧ (((after .stationSecond masked).chan 0).staged.map Frame.notice) = some none := by decide +kernel

/-- A QUIET channel that still holds the decision of a boundary jumped over: the new decision is the one that its boundary carries out (R148, R158). -/
theorem test_composition_replaces_a_decision :
    let s := withChan 0 .quiet (withEntries [outageEntry 7 (night + 1) .committed] beforeFifty)
    let s := s.modifyChan 0 fun c => { c with quietDecided := true, nextSecond := some ⟨night + 1, 0⟩ }
    let t := after .stationSecond s
    (t.chan 0).claim = some 7 ∧ (t.chan 0).quietDecided = false ∧
    ((after (.channelSecondStart 0) t).chan 0).state = .held .calendar := by decide +kernel

/-- A QUIET channel with a frame left staged of a boundary jumped over, claimed at its next composition instant: the frame stays, and the boundary carries out the
claim (R129, R158, log 23). -/
theorem test_composition_beside_a_stale_frame :
    let calm := { after .stationSecond (withChan 0 .quiet beforeFifty) with pending := [] }
    let s := withEntries [outageEntry 7 (night + 2) .committed] { calm with tb := { calm.tb with time := some ⟨night + 1, 49⟩ } }
    let t := after .stationSecond s
    let u := after (.channelSecondStart 0) (t.modifyChan 0 fun c => { c with nextSecond := some ⟨night + 2, 0⟩ })
    (s.chan 0).staged.isSome = true ∧ (t.chan 0).staged = (s.chan 0).staged ∧ (t.chan 0).claim = some 7 ∧
    (u.chan 0).state = .held .calendar ∧ (u.chan 0).heldBy = some 7 ∧ (u.chan 0).staged = none ∧ (u.chan 0).onAir = none := by decide +kernel

/-- A channel that left the air and came back within the minute composes over a clean record (R113): the notice once in service runs its dwell anew. -/
theorem test_composition_starts_clean :
    let s := withChan 0 .onAir (withEntries [advisoryEntry 7 (night + 30) .announcing] beforeFifty)
    let s := s.modifyChan 0 fun c => { c with arbiter := { inService := some ⟨7, 2⟩, stack := [⟨9, 3⟩], mark := some 9 } }
    let back := [Instr.carrierOff (.of 0 [0]), .requestCompletion 0, .carrierOn (.of 0 [0]), .requestCompletion 0, .goOnAir (.of 0 [0])].foldl
      (fun s c => after c s) s
    (back.chan 0).state = .cued ∧ (back.chan 0).arbiter = (s.chan 0).arbiter ∧
    ((after .stationSecond s).chan 0).arbiter.inService = some ⟨7, 1⟩ ∧
    ((after .stationSecond back).chan 0).arbiter = { inService := some ⟨7, 4⟩, stack := [], mark := some 7 } := by decide +kernel

theorem witness_CarrierOnAndOff :
    let full := evening.modifyChan 0 fun c => { c with history := [0, 0, 0, 0] }
    let room := evening.modifyChan 0 fun c => { c with history := [0, 0, 0] }
    evening.listens ∧ (0 : Fin 4).val = (0 : Byte).toNat ∧ ((withChan 0 .carrier evening).chan 0).state ≠ .off ∧ (full.chan 0).state = .off ∧
    4 ≤ (full.chan 0).history.length ∧ (room.chan 0).history.length < 4 ∧ (∀ w ∈ evening.meter.working.toList, w.channel ≠ 0) ∧
    ((withChan 0 .faulted evening).chan 0).state = .faulted ∧ measuring.listens ∧ (measuring.meter.working.map Working.channel) = some 0 ∧
    (measuring.chan 0).state = .carrier ∧ (((after (.carrierOff (.of 0 [0])) measuring).meter.results.get 0).map MeterResult.outcome) = some .aborted ∧
    ((withChan 0 .off measuring).chan 0).state = .off := by decide +kernel

theorem witness_ClearFaultClears :
    let s := withChan 0 .faulted evening
    let high := after (.faultActive 100000 ⟨0, 10000⟩) s
    s.listens ∧ evening.listens ∧ (s.chan 0).state = .faulted ∧ (s.chan 0).fault = false ∧ (high.chan 0).fault = true ∧
    high.listens ∧ (evening.chan 0).state ≠ .faulted ∧ s.meter.working = none ∧
    (s.chan 0).faultLine.high = false ∧ (s.chan 0).faultLine.seen + 10000 * 10 ≤ s.fin + 0 + 100000 := by decide +kernel

theorem witness_GoOnAirCues :
    let s := fun g => withChan 0 .carrier (withGrade g evening)
    (s 4).listens ∧ ((s 4).chan 0).state = .carrier ∧ (s 4).tb.grade < ((s 4).chan 0).cfg.silence ∧ ((s 5).chan 0).cfg.silence ≤ (s 5).tb.grade ∧
    (s 6).tb.grade = 6 ∧ (evening.chan 0).state ≠ .carrier ∧ (∃ w, measuring.meter.working = some w ∧ w.channel = 0) :=
  ⟨by decide +kernel, by decide +kernel, by decide +kernel, by decide +kernel, by decide +kernel, by decide +kernel, _, rfl, rfl⟩

theorem witness_HoldTakesOffTheAir :
    let s := fun st => withChan 0 st evening
    (s .onAir).listens ∧ ((s .onAir).chan 0).state = .onAir ∧ ((s .onAir).chan 0).holdPending = false ∧ ((s .cued).chan 0).state = .cued ∧
    ((s .quiet).chan 0).state = .quiet ∧ ((s .resuming).chan 0).state = .resuming ∧ (s .resuming).listens ∧
    ((after (.hold (.of 0 [0])) (s .onAir)).chan 0).holdPending = true ∧ (s .off).listens := by decide +kernel

theorem witness_ResumeAfterTheHold :
    let at_ := fun (t : RunSec) => { withChan 0 (.held .host) evening with ret := { evening.ret with runSeconds := t } }
    let cal := withChan 0 (.held .calendar) evening
    (at_ 119).listens ∧ ((at_ 119).chan 0).fieldsFit ∧ ((at_ 119).chan 0).heldSince = some 0 ∧ ((119 : RunSec) - 0).toNat < 120 ∧
    120 ≤ ((120 : RunSec) - 0).toNat ∧ ((at_ 120).chan 0).history.length < 4 ∧ cal.listens ∧ (cal.chan 0).fieldsFit ∧
    (cal.chan 0).state = .held .calendar ∧ (evening.chan 0).fieldsFit ∧ evening.tb.time = some ⟨night, 30⟩ ∧
    4 ≤ (((at_ 120).modifyChan 0 fun c => { c with history := [0, 0, 0, 0] }).chan 0).history.length := by decide +kernel

theorem witness_ConfigureChannelWrites :
    let legal := fun b link mode ident dwell doubt silence mask drive : Nat => b ≤ 3 ∧ link ≤ 3 ∧ mode ≤ 1 ∧ ident ≤ 15 ∧ 1 ≤ dwell ∧ dwell ≤ 15 ∧
      1 ≤ doubt ∧ doubt ≤ silence ∧ silence ≤ 6 ∧ mask ≤ 7 ∧ drive ≤ 50000
    evening.listens ∧ legal 0 0 0 0 1 1 1 0 0 ∧ legal 3 3 1 15 15 6 6 7 50000 ∧ ¬legal 0 0 0 0 1 3 2 0 0 ∧ ¬legal 0 0 0 0 1 1 1 0 50001 ∧
    ((0 : Byte).toNat * 256 + (0xC3 : Byte).toNat) * 256 + (0x50 : Byte).toNat = 50000 ∧ (evening.profiles.get 0).defined = true ∧
    (State.reset.profiles.get 0).defined = false ∧ ((withChan 0 .quiet evening).chan 0).state.inService = true ∧
    ((withChan 0 .quiet evening).chan 0).cfg.link ≠ 1 ∧ (withChan 0 .quiet evening).listens := by decide +kernel

/-- Channel 0, OFF and linked to P1, still holds the notice of an OFFSET CHANGE of P1 in service, a second one and that of an INTERRUPTION of channels 0 and 1 stacked. -/
def leftOver : State :=
  let s := withChan 0 .off { evening with cal := { evening.cal with
    entries := [offsetEntry 7 (night + 60) .announcing, outageEntry 8 (night + 60) .announcing, offsetEntry 9 (night + 60) .announcing], ring := [7, 8, 9] } }
  s.modifyChan 0 fun c => { c with cfg := { c.cfg with link := 1 }, arbiter := ⟨some ⟨7, 3⟩, [⟨9, 2⟩, ⟨8, 4⟩], some 7⟩ }

/-- CONFIGURE CHANNEL for channel 0: a link, and the other fields as `leftOver` has them. -/
def relink (link : Fin 4) : Instr := .configureChannel (.of 0 (0 :: { (leftOver.chan 0).cfg with link }.bytes))

/-- A new link takes the entries of the old profile out of the slot and the stack and keeps the rest and the mark; a repeat keeps the record (R53, R103). -/
theorem test_configureChannel_newLink :
    ((after (relink 2) leftOver).chan 0).arbiter = ⟨none, [⟨8, 4⟩], some 7⟩ ∧ ((after (relink 2) leftOver).chan 0).cfg.link = 2 ∧
    ((after (relink 1) leftOver).chan 0).arbiter = (leftOver.chan 0).arbiter := by decide +kernel

theorem witness_ConfigureChannelWrites_newLink :
    let c := leftOver.chan 0
    leftOver.listens ∧ c.state.inService = false ∧ c.cfg.link ≠ 2 ∧ (leftOver.profiles.get 2).defined = true ∧ 2 ≤ c.arbiter.stack.length ∧
    formed (after (relink 2) leftOver) = [0x40, 0x00] ∧ formed (after (relink 1) leftOver) = [0x40, 0x00] := by decide +kernel

theorem witness_ReadChannelReports :
    evening.listens ∧ (evening.chan 3).onAir = none ∧ (3 : Fin 4).val = (3 : Byte).toNat ∧ 4 ≤ (4 : Byte).toNat ∧
    (Instr.hold (.of 0 [4])).request? = some (0x43, .of 0 [4]) := by decide +kernel

theorem witness_FaultsTakeTheChannel :
    let high := after (.faultActive 100000 ⟨1, 10000⟩) evening
    evening.running = true ∧ (evening.chan 1).fault = false ∧ (evening.chan 1).state ≠ .faulted ∧ ((withChan 1 .faulted evening).chan 1).state = .faulted ∧
    (evening.chan 1).faultLine = ⟨false, 0, 0⟩ ∧ evening.tb.fselHigh = true ∧ 0 + 10000 * 10 ≤ evening.fin + 100000 ∧
    ¬(0 + 10000 * 10 ≤ evening.fin + 99999) ∧ high.running = true ∧ (high.chan 1).fault = true ∧ (high.chan 1).faultLine = ⟨true, 0, 100000⟩ ∧
    100000 + 10000 * 10 ≤ high.fin + 100000 := by decide +kernel

/-- An ON AIR channel 0 with a frame of F, and the second given as its next. -/
def keying (v : UtcSecond) (staged : Bool) : State :=
  let f := evening.frameFor 0 night { inService := none, stack := [], mark := none }
  (withChan 0 .onAir evening).modifyChan 0 fun c =>
    { c with nextSecond := some v, onAir := some f, staged := if staged then some f else none, pendingAdvance := some 3100 }

theorem witness_ChannelSecondsKeySymbols :
    let s := keying ⟨night, 59⟩ false
    s.running = true ∧ (s.chan 0).nextSecond = some ⟨night, 59⟩ ∧ (s.secondAfter ⟨night, 59⟩).second = 0 ∧ (s.chan 0).state = .onAir ∧
    ((s.chan 0).onAir.bind fun f => f.symbols[59]?) = some .z ∧ s.tb.time ≠ some ⟨night, 59⟩ ∧ s.tb.elapsed ≤ s.tb.length - (s.chan 0).inForce * 10 ∧
    ((keying ⟨night, 30⟩ false).tb.time = some ⟨night, 30⟩) ∧ ((after (.channelSecondStart 0) s).chan 0).inForce = 3100 ∧
    (measuring.chan 0).state = .carrier ∧ (measuring.meter.working.map Working.channel) = some 0 ∧
    ((after (.channelSecondStart 0) s).chan 0).keyPlan ≠ [] := by decide +kernel

theorem witness_ChannelBoundaryCarriesOut :
    let v : UtcSecond := ⟨night + 1, 0⟩
    let s := fun (f : Channel → Channel) => (keying v false).modifyChan 0 f
    let next := fun (f : Channel → Channel) => ((after (.channelSecondStart 0) (s f)).chan 0).state
    (keying v true).running = true ∧ ((keying v true).chan 0).nextSecond = some v ∧ ((keying v true).chan 0).staged.isSome = true ∧
    next (fun c => { c with quietDecided := true }) = .quiet ∧ next (fun c => { c with holdPending := true }) = .held .host ∧
    next (fun c => { c with claim := some 7 }) = .held .calendar ∧ next (fun c => { c with claimCancelled := true }) = .cued ∧
    next (fun c => { c with state := .resuming, resumeStart := some ⟨night, 0, 0⟩ }) = .resuming := by decide +kernel

theorem witness_HistoryTimesExpire : evening.running = true ∧ ((1800 : RunSec) - 0).toNat = 1800 ∧ ((1800 : RunSec) - 1).toNat < 1800 := by
  decide +kernel

theorem witness_MeterRequests :
    let good := fun b mode apply : Nat => b ≤ 3 ∧ mode ≤ 1 ∧ apply ≤ 1
    evening.listens ∧ good 0 0 0 ∧ good 3 1 1 ∧ ¬good 4 0 0 ∧ ¬good 0 2 0 ∧ ¬good 0 0 2 ∧ measuring.listens ∧ measuring.meter.working ≠ none ∧
    evening.meter.working = none ∧ ((withChan 0 .carrier evening).chan 0).state = .carrier ∧ evening.tb.state ≠ .unset ∧ (evening.chan 0).state = .off := by
  decide +kernel

theorem witness_SamplesMakeTheResult :
    (∃ w, measuring.running = true ∧ measuring.meter.working = some w ∧ w.channel = 0 ∧ w.window = some 0 ∧ w.sample = none ∧ 8 ≤ w.taken + 1) ∧
    (after (.monitorEdge 999999 0 .falling) measuring).meter.working.map Working.sample = some (some 99999) ∧
    (after (.monitorEdge 1000000 0 .falling) measuring).meter.working.map Working.sample = some none ∧ (measuring.chan 0).state = .carrier :=
  ⟨⟨_, rfl, rfl, rfl, rfl, rfl, by decide⟩, by decide +kernel, by decide +kernel, by decide +kernel⟩

theorem witness_LossMomentReleasesEverything :
    evening.running = true ∧ evening.ret.loss = none ∧ dark.running = false ∧ reset0.running = false := by decide +kernel

theorem witness_PowerUpCold :
    let lost := { dark with ret := { dark.ret with marker := false } }
    lost.vdd = false ∧ lost.ret.marker = false ∧ lost.resetN = true ∧ ({ lost with resetN := false } : State).resetN = false := by decide

theorem witness_WarmStartBringsBack :
    let s := after (.vddLoss 0 5 true) evening
    let r := after (.resetNLow 0 5) evening
    s.vdd = false ∧ s.resetN = true ∧ s.ret.marker = true ∧ s.ret.loss = some { time := some ⟨night, 30, 0⟩, run := 0, fraction := 5 } ∧
    s.cal.entries = [] ∧ (night * 60 + 30 + 0) / 60 < minutesKept ∧ r.vdd = true ∧ r.resetN = false ∧ r.ret.marker = true ∧
    (after (.vddLoss 0 5 true) State.reset).ret.loss = some { time := none, run := 0, fraction := 5 } ∧ evening.listens ∧ evening.ret.loss = none ∧
    State.reset.tb.time = none ∧ evening.tb.time = some ⟨night, 30⟩ ∧ night < minutesKept := by decide +kernel

/-- RESET PART with a LEAP INSERT entry held: the time goes on where it was. -/
theorem witness_WarmStartBringsBack_resetPart :
    let s := leapNight 58 .leapInsert
    s.listens ∧ s.ret.loss = none ∧ (∀ e ∈ s.cal.entries, e.kind = .leapInsert ∧ 1 ≤ e.instant) ∧
    (after (.resetPart (.of 0 []) 5) s).tb.time = s.tb.time := by decide +kernel

/-- Stopped in second 58 of the last minute of June 2035 with a COMMITTED LEAP entry, `k` run seconds ago. -/
def leapGap (p : Payload) (k : RunSec) : State :=
  let s := after (.vddLoss 0 5 true) (leapNight 58 p)
  { s with ret := { s.ret with runSeconds := k } }

theorem witness_WarmStartBringsBack_leap :
    let july := minuteOf 2035 7 1 0 0
    let loss : UtcSecond := ⟨july - 1, 58⟩
    let after_ := fun p k => (after (.powerUp 5 true) (leapGap p k)).tb.time
    (leapGap .leapInsert 9).cal.sound ∧ (leapGap .leapInsert 9).ret.loss = some { time := some ⟨july - 1, 58, 0⟩, run := 0, fraction := 5 } ∧
    (leapEntry 1 .leapInsert .committed).leapWithin loss ⟨july, 7⟩ = true ∧ after_ .leapInsert 9 = some ⟨july, 6⟩ ∧
    (leapEntry 1 .leapInsert .committed).leapWithin loss ⟨july, 0⟩ = true ∧ after_ .leapInsert 2 = some ⟨july - 1, 60⟩ ∧
    (leapEntry 1 .leapDelete .committed).leapWithin loss ⟨july, 7⟩ = true ∧ after_ .leapDelete 9 = some ⟨july, 8⟩ ∧
    (leapEntry 1 .leapInsert .committed).leapWithin loss ⟨july - 1, 59⟩ = false := by decide +kernel

theorem witness_BlocksStaySound :
    let s := { busyCalendar with pending := [.stationSecond] }
    s.tb.sound ∧ s.mon.sound ∧ (∀ n : Fin 4, (s.chan n).bounded ∧ (s.chan n).fieldsFit) ∧ step s = .next (after .stationSecond busyCalendar) :=
  ⟨by decide +kernel, by decide +kernel, by decide +kernel, rfl⟩

theorem witness_KeyingStaysSafe :
    let s := { keying ⟨night, 59⟩ false with pending := [.channelSecondStart 0] }
    s.keyingSafe ∧ step s = .next (after (.channelSecondStart 0) (keying ⟨night, 59⟩ false)) ∧
    ((after (.channelSecondStart 0) (keying ⟨night, 59⟩ false)).chan 0).key = true :=
  ⟨by decide +kernel, rfl, by decide +kernel⟩

end Sys2Proof.Tests
end

section
/-! READ REFERENCE (R34): the reference a byte names, the label's bytes in the reply, and what the owner leaves of a named and of an unnamed reference. -/

namespace Sys2Proof.Machine

/-! ### The reference a byte names -/

theorem ref?_of_two_le {b : Byte} (h : 2 ≤ b.toNat) : ref? b = none := by
  have h0 : b ≠ 0 := by bv_omega
  have h1 : b ≠ 1 := by bv_omega
  rw [ref?, if_neg h0, if_neg h1]

theorem ref?_of_le_one {b : Byte} (h : b.toNat ≤ 1) : ref? b = some (if b = 0 then .a else .b) := by
  by_cases h0 : b = 0
  · rw [ref?, if_pos h0, if_pos h0]
  · have h1 : b = 1 := by bv_omega
    rw [ref?, if_neg h0, if_pos h1, if_neg h0]

@[simp] theorem State.ref_handed (p : Period) (r : Ref) (s : State) : (s.handed p).ref r = s.ref r := by
  cases r <;> rfl

/-! ### The record in the reply -/

@[simp] theorem beLabel_none : beLabel none = [0xFF, 0xFF, 0xFF, 0xFF, 0xFF, 0xFF, 0xFF] := rfl

/-- The three status flags as the sum of the weights 1, 2 and 4 of those that are set (section 12.3). -/
theorem statusByte_eq_weights (m : Message) :
    m.timeValid.toNat + 2 * m.leapInsert.toNat + 4 * m.leapDelete.toNat =
      (if m.timeValid then 1 else 0) + (if m.leapInsert then 2 else 0) + (if m.leapDelete then 4 else 0) := by
  have weight (k : Nat) (flag : Bool) : k * flag.toNat = if flag then k else 0 := by cases flag <;> simp
  rw [weight 2, weight 4, ← weight 1, Nat.one_mul]

theorem beLabel_some (m : Message) : beLabel (some m) =
    be8 m.label.year ++ be8 m.label.month ++ be8 m.label.day ++ be8 m.label.hour ++ be8 m.label.minute ++ be8 m.label.second ++
    be8 ((if m.timeValid then 1 else 0) + (if m.leapInsert then 2 else 0) + (if m.leapDelete then 4 else 0)) := by
  rw [← statusByte_eq_weights]; rfl

/-- The end of the select period itself changes no field of the record. -/
@[simp] theorem State.referenceFields_handed (p : Period) (r : Ref) (s : State) :
    (s.handed p).referenceFields r = s.referenceFields r := by
  simp [State.referenceFields]

/-! ### The request -/

theorem ownReadReference_unnamed {b : Byte} (h : ref? b = none) (s : State) :
    ownReadReference [b] s = s.refuse 0x14 .badParameter := by
  simp [ownReadReference, h]

theorem ownReadReference_named {b : Byte} {r : Ref} (h : ref? b = some r) (s : State) :
    ownReadReference [b] s = s.answer 0x14 .done (s.referenceFields r) := by
  simp [ownReadReference, h]

/-- A READ REFERENCE of one field byte that the link takes is its owner's. -/
theorem exec_readReference {s : State} (h : s.listens) (d : Nat) (b : Byte) :
    exec (.readReference (.of d [b])) s = .next (ownReadReference [b] (s.handed (.of d [b]))) :=
  congrArg Host.Outcome.next (takeRequest_of h rfl)

/-- Settles O18: the byte names a reference or none; a named one is answered with its record, laid out by a last label held or absent. -/
theorem readReferenceReports : Obligations.ReadReferenceReports := by
  intro d b s h p r x label
  have hlabel : beLabel x.lastLabel = label := by
    cases hx : x.lastLabel with
    | none => simp only [label, hx, beLabel_none]
    | some m => simp only [label, hx, beLabel_some]
  constructor
  · intro hb
    rw [exec_readReference h, ownReadReference_unnamed (ref?_of_two_le hb)]
    rfl
  · intro hb
    rw [exec_readReference h, ownReadReference_named (ref?_of_le_one hb), State.referenceFields_handed, ← hlabel]
    rfl

end Sys2Proof.Machine
end

section
/-! FIND CHANGE (R95): when five bytes give a UTC minute, the entries that match, and what the owner leaves of a search refused and of one accepted. -/

namespace Sys2Proof.Machine

/-! ### The operands -/

theorem dateExists_iff {y m d : Nat} : dateExists y m d = true ↔ 1 ≤ m ∧ m ≤ 12 ∧ 1 ≤ d ∧ d ≤ monthLength y m := by
  simp [dateExists, and_assoc]

/-- Five bytes give an instant exactly when they are a valid UTC minute (R81). -/
theorem instant?_eq_some_iff {y mo d h mi : Byte} {start : Nat} : instant? y mo d h mi = some start ↔
    (y.toNat ≤ 199 ∧ (1 ≤ mo.toNat ∧ mo.toNat ≤ 12 ∧ 1 ≤ d.toNat ∧ d.toNat ≤ monthLength (2000 + y.toNat) mo.toNat) ∧
      h.toNat ≤ 23 ∧ mi.toNat ≤ 59) ∧ minuteOf (2000 + y.toNat) mo.toNat d.toNat h.toNat mi.toNat = start := by
  rw [instant?, Option.ite_none_right_eq_some, dateExists_iff, Option.some.injEq]

theorem inRange?_eq_some_iff {lo hi n k : Nat} : inRange? lo hi n = some k ↔ (lo ≤ n ∧ n ≤ hi) ∧ n = k := by
  rw [inRange?, Option.ite_none_right_eq_some, Option.some.injEq]

/-! ### The search -/

/-- The entries at or after `start` of a kind and a state in the two sets, in calendar order (R95). -/
def State.matching (start : Nat) (kinds states : Byte) (s : State) : List Entry :=
  s.cal.entries.filter fun e => decide (start ≤ e.instant) && setHolds kinds e.kind.code && setHolds states e.state.code

/-- The end of the select period itself changes no match. -/
@[simp] theorem State.matching_handed (p : Period) (start : Nat) (kinds states : Byte) (s : State) :
    (s.handed p).matching start kinds states = s.matching start kinds states := rfl

/-! ### The request -/

/-- A search whose start or skip count is out of range is refused. -/
theorem ownFindChange_refused {y mo d h mi skip : Byte}
    (hbad : ∀ start k, instant? y mo d h mi = some start → inRange? 0 31 skip.toNat ≠ some k) (kinds states : Byte) (s : State) :
    ownFindChange [y, mo, d, h, mi, kinds, states, skip] s = s.refuse 0x35 .badParameter := by
  cases hi : instant? y mo d h mi with
  | none => simp only [ownFindChange, hi]
  | some start =>
    cases hk : inRange? 0 31 skip.toNat with
    | none => simp only [ownFindChange, hi, hk]
    | some k => exact absurd hk (hbad start k hi)

/-- A search whose operands are in range is answered with the number of matches and the ident of the one after `k` of them. -/
theorem ownFindChange_accepted {y mo d h mi skip : Byte} {start k : Nat} (hi : instant? y mo d h mi = some start)
    (hk : inRange? 0 31 skip.toNat = some k) (kinds states : Byte) (s : State) :
    ownFindChange [y, mo, d, h, mi, kinds, states, skip] s =
      s.answer 0x35 .done (be8 (s.matching start kinds states).length ++ beIdent ((s.matching start kinds states)[k]?.map Entry.ident)) := by
  simp only [ownFindChange, hi, hk, State.matching]

/-- A FIND CHANGE of eight field bytes that the link takes is its owner's. -/
theorem exec_findChange {s : State} (hs : s.listens) (d : Nat) (y mo da h mi kinds states skip : Byte) :
    exec (.findChange (.of d [y, mo, da, h, mi, kinds, states, skip])) s =
      .next (ownFindChange [y, mo, da, h, mi, kinds, states, skip] (s.handed (.of d [y, mo, da, h, mi, kinds, states, skip]))) :=
  congrArg Host.Outcome.next (takeRequest_of hs rfl)

/-- Settles O33: operands out of range are refused; a search in range is answered from the matching entries, whose one after the skip count is there or not. -/
theorem findChangeSearches : Obligations.FindChangeSearches := by
  intro d y mo da h mi kinds states skip s hs p valid start found
  constructor
  · intro hinvalid
    have hbad : ∀ start k, instant? y mo da h mi = some start → inRange? 0 31 skip.toNat ≠ some k := by
      intro start k hi hk
      obtain ⟨⟨hy, ⟨hmo, hmo', hda, hda'⟩, hh, hmi⟩, -⟩ := instant?_eq_some_iff.mp hi
      obtain ⟨⟨-, hskip⟩, -⟩ := inRange?_eq_some_iff.mp hk
      exact hinvalid ⟨hy, hmo, hmo', hda, hda', hh, hmi, hskip⟩
    rw [exec_findChange hs, ownFindChange_refused hbad]
    rfl
  · rintro ⟨hy, hmo, hmo', hda, hda', hh, hmi, hskip⟩
    have hi : instant? y mo da h mi = some start := instant?_eq_some_iff.mpr ⟨⟨hy, ⟨hmo, hmo', hda, hda'⟩, hh, hmi⟩, rfl⟩
    have hk : inRange? 0 31 skip.toNat = some skip.toNat := inRange?_eq_some_iff.mpr ⟨⟨Nat.zero_le _, hskip⟩, rfl⟩
    have hfound : s.matching start kinds states = found := rfl
    rw [exec_findChange hs, ownFindChange_accepted hi hk, State.matching_handed, hfound]
    cases found[skip.toNat]? with
    | none => rfl
    | some e => rfl

end Sys2Proof.Machine
end

section
/-! The causes and ATTN_N (R196 to R198): each cause stands at a bit of its own, and ATTN_N of a running part follows the causes flagged and enabled. -/

namespace Sys2Proof.Machine

/-! ### Causes and bits -/

/-- The bit of a cause in the flags and the enables (R196). -/
def Cause.bit (c : Cause) : Fin 13 :=
  match c with
  | .changeAnnouncing => 0
  | .changeEffected => 1
  | .interruptionEnded => 2
  | .changeOvertaken => 3
  | .calendarNearFull => 4
  | .channelEvent => 5
  | .measurementEnded => 6
  | .gradeChanged => 7
  | .referenceChanged => 8
  | .timeDisagree => 9
  | .leapDisagree => 10
  | .linkOverrun => 11
  | .start => 12

theorem Cause.weight_eq_twoPow (c : Cause) : c.weight = BitVec.twoPow 13 c.bit := by
  cases c <;> rfl

/-- Every bit is some cause's. -/
theorem Cause.exists_bit_eq (k : Fin 13) : ∃ c : Cause, c.bit = k :=
  match k with
  | 0 => ⟨.changeAnnouncing, rfl⟩
  | 1 => ⟨.changeEffected, rfl⟩
  | 2 => ⟨.interruptionEnded, rfl⟩
  | 3 => ⟨.changeOvertaken, rfl⟩
  | 4 => ⟨.calendarNearFull, rfl⟩
  | 5 => ⟨.channelEvent, rfl⟩
  | 6 => ⟨.measurementEnded, rfl⟩
  | 7 => ⟨.gradeChanged, rfl⟩
  | 8 => ⟨.referenceChanged, rfl⟩
  | 9 => ⟨.timeDisagree, rfl⟩
  | 10 => ⟨.leapDisagree, rfl⟩
  | 11 => ⟨.linkOverrun, rfl⟩
  | 12 => ⟨.start, rfl⟩

/-- A set of causes meets a cause's weight exactly when it holds the cause's bit. -/
theorem Cause.and_weight_ne_zero_iff (x : BitVec 13) (c : Cause) : x &&& c.weight ≠ 0 ↔ x.getLsbD c.bit = true := by
  have hpow : BitVec.twoPow 13 c.bit ≠ 0 := by
    rw [← c.weight_eq_twoPow]; cases c <;> decide
  rw [c.weight_eq_twoPow, BitVec.and_twoPow]
  cases x.getLsbD c.bit with
  | false => simp
  | true => simpa using hpow

/-- A set of causes that takes in a cause meets its weight. -/
theorem Cause.or_weight_meets (x : BitVec 13) (c : Cause) : (x ||| c.weight) &&& c.weight ≠ 0 := by
  rw [Cause.and_weight_ne_zero_iff, c.weight_eq_twoPow, BitVec.getLsbD_or, BitVec.getLsbD_twoPow]
  simp

/-- A set of causes is not empty exactly when it holds some cause's bit. -/
theorem Cause.ne_zero_iff (x : BitVec 13) : x ≠ 0 ↔ ∃ c : Cause, x.getLsbD c.bit = true := by
  constructor
  · intro hx
    by_contra hnone
    refine hx (BitVec.eq_of_getLsbD_eq fun i hi => ?_)
    obtain ⟨c, hc⟩ := Cause.exists_bit_eq ⟨i, hi⟩
    have hclear : x.getLsbD c.bit ≠ true := fun h => hnone ⟨c, h⟩
    simpa [hc] using hclear
  · rintro ⟨c, hc⟩ rfl
    simp at hc

/-! ### ATTN_N -/

/-- ATTN_N of a running part, as the flags and the enables stand. -/
theorem State.attnN_running {s : State} (h : s.running = true) : s.attnN = decide (s.att.flags &&& s.att.enables = 0) := by
  simp [State.attnN, h, bne, beq_eq_decide]

/-- ATTN_N of a running part is low exactly while some cause is both flagged and enabled (R198). -/
theorem State.attnN_eq_false_iff {s : State} (h : s.running = true) :
    s.attnN = false ↔ ∃ c : Cause, s.att.flags &&& c.weight ≠ 0 ∧ s.att.enables &&& c.weight ≠ 0 := by
  rw [State.attnN_running h, decide_eq_false_iff_not, ← Ne.eq_def, Cause.ne_zero_iff]
  simp only [Cause.and_weight_ne_zero_iff, BitVec.getLsbD_and, Bool.and_eq_true]

/-- ATTN_N of a stopped part is high (R179). -/
theorem State.attnN_stopped {s : State} (h : s.running = false) : s.attnN = true := by
  simp [State.attnN, h]

theorem State.flagged_iff {s : State} {c : Cause} : s.flagged c = true ↔ s.att.flags &&& c.weight ≠ 0 := by
  simp [State.flagged]

/-- A cause raised is flagged, enabled or not (R197). -/
theorem State.raise_flagged (c : Cause) (s : State) : (s.raise c).flagged c = true :=
  State.flagged_iff.mpr (Cause.or_weight_meets s.att.flags c)

/-- A cause raised in a running part that has it enabled pulls ATTN_N low. -/
theorem State.raise_attnN {s : State} {c : Cause} (hrun : s.running = true) (he : s.att.enables &&& c.weight ≠ 0) :
    (s.raise c).attnN = false :=
  (State.attnN_eq_false_iff (s := s.raise c) hrun).mpr ⟨c, Cause.or_weight_meets s.att.flags c, he⟩

end Sys2Proof.Machine
end

section
/-! The starts and the loss moment (R179 to R187) as the Attention Unit and the link see them: a warm start's procedure raises flags and leaves the enables, the
supplies and the link; every start ends with START flagged and every enable set. -/

namespace Sys2Proof.Machine

/-! ### The enables stay through the discontinuity procedure -/

@[simp] theorem abortMeasurement_enables (s : State) : s.abortMeasurement.att.enables = s.att.enables := by
  unfold State.abortMeasurement; split <;> rfl

@[simp] theorem abortMeasurementOn_enables (n : Fin 4) (s : State) : (s.abortMeasurementOn n).att.enables = s.att.enables := by
  fun_cases State.abortMeasurementOn <;> simp

@[simp] theorem moveChannel_enables (n : Fin 4) (st : ChannelState) (s : State) : (s.moveChannel n st).att.enables = s.att.enables := by
  fun_cases State.moveChannel <;> simp

@[simp] theorem startResuming_enables (n : Fin 4) (s : State) : (s.startResuming n).att.enables = s.att.enables := by
  simp [State.startResuming, State.carrierOnEvent]

@[simp] theorem releaseChannel_enables (i : Nat) (n : Fin 4) (s : State) : (s.releaseChannel i n).att.enables = s.att.enables := by
  fun_cases State.releaseChannel <;> simp

@[simp] theorem release_enables (i : Nat) (s : State) : (s.release i).att.enables = s.att.enables := by
  simp [State.release, State.eachChannel]

@[simp] theorem leaveRing_att (i : Nat) (s : State) : (s.leaveRing i).att = s.att := by rw [leaveRing_frame]

@[simp] theorem removeEntry_att (i : Nat) (s : State) : (s.removeEntry i).att = s.att := by rw [removeEntry_frame]

@[simp] theorem finishEntry_att (e : Entry) (o : EntryOutcome) (s : State) : (s.finishEntry e o).att = s.att := by
  rw [finishEntry_frame]

@[simp] theorem applyPayload_att (p : Payload) (s : State) : (s.applyPayload p).att = s.att := by
  rw [applyPayload_frame]

@[simp] theorem joinRing_enables (i : Nat) (s : State) : (s.joinRing i).att.enables = s.att.enables := by
  fun_cases State.joinRing <;> simp

@[simp] theorem recomputeEntry_enables (now : UtcSecond) (e : Entry) (s : State) :
    (s.recomputeEntry now e).att.enables = s.att.enables := by
  unfold State.recomputeEntry
  dsimp only
  split <;> simp

@[simp] theorem takeLate_enables (now : Nat) (e : Entry) (s : State) : (s.takeLate now e).att.enables = s.att.enables := by
  unfold State.takeLate
  dsimp only
  split
  · split <;> simp
  all_goals simp

@[simp] theorem replaceInEffect_enables (now : UtcSecond) (e : Entry) (s : State) :
    (s.replaceInEffect now e).att.enables = s.att.enables := by
  fun_cases State.replaceInEffect <;> simp

@[simp] theorem procedureEntry_enables (l : Option UtcSecond) (i : Nat) (s : State) :
    (s.procedureEntry l i).att.enables = s.att.enables := by
  fun_cases State.procedureEntry <;> simp

/-- What each operation of a fold keeps, the fold keeps. -/
theorem foldl_keeps {α β : Type} {f : State → α → State} {g : State → β} (h : ∀ s a, g (f s a) = g s) (l : List α) (s : State) :
    g (l.foldl f s) = g s := by
  induction l generalizing s with
  | nil => rfl
  | cons a l ih => exact (ih _).trans (h s a)

@[simp] theorem removeWithdrawn_att (s : State) : s.removeWithdrawn.att = s.att :=
  foldl_keeps (g := State.att) (fun s (e : Entry) => removeEntry_att e.ident s) _ _

@[simp] theorem discontinuity_enables (l : Option UtcSecond) (s : State) : (s.discontinuity l).att.enables = s.att.enables := by
  have hfold := foldl_keeps (g := fun s => s.att.enables) (fun s i => procedureEntry_enables l i s)
    (s.removeWithdrawn.cal.entries.map Entry.ident) s.removeWithdrawn
  rw [removeWithdrawn_att] at hfold
  exact hfold

/-! ### A warm start changes blocks alone -/

theorem State.blocksOnly.running {s t : State} (h : s.blocksOnly t) : t.running = s.running := by rw [h]; rfl

theorem State.blocksOnly.link {s t : State} (h : s.blocksOnly t) : t.link = s.link := by rw [h]

theorem procedureEntry_blocksOnly (l : Option UtcSecond) (i : Nat) (s : State) : s.blocksOnly (s.procedureEntry l i) := by
  unfold State.blocksOnly; rw [procedureEntry_frame]

theorem foldl_blocksOnly {α : Type} {f : State → α → State} (h : ∀ (s : State) (a : α), s.blocksOnly (f s a)) (l : List α) (s : State) :
    s.blocksOnly (l.foldl f s) := by
  induction l generalizing s with
  | nil => rfl
  | cons a l ih => exact (h s a).trans (ih _)

/-- The discontinuity procedure of any placement, a warm start's too. -/
theorem discontinuity_blocksOnly (l : Option UtcSecond) (s : State) : s.blocksOnly (s.discontinuity l) :=
  ((removeWithdrawn_calendarOnly s).blocks.trans (foldl_blocksOnly (fun s i => procedureEntry_blocksOnly l i s) _ _)).trans rfl

theorem timePlaced_blocksOnly (century : Nat) (s : State) : s.blocksOnly (s.timePlaced century) := by
  fun_cases State.timePlaced <;> rfl

@[simp] theorem timePlaced_att (century : Nat) (s : State) : (s.timePlaced century).att = s.att := by
  fun_cases State.timePlaced <;> rfl

/-- The retained records with the fraction read, and every block's working state at its start value: where a warm start begins (R185). -/
def State.warmBase (fraction : Ticks) (s : State) : State :=
  ({ s with ret := { s.ret with fraction := fraction } }).restarted (some .warm)

/-- What a warm start does once the working state is set: the procedure at the reconstructed time, or the WITHDRAWN entries alone; then the flags of R187. -/
theorem warmStart_cases (fraction : Ticks) (s : State) : ∃ t, s.warmStart fraction = t.started ∧
    (s.warmBase fraction).blocksOnly t ∧ t.att.enables = (s.warmBase fraction).att.enables := by
  fun_cases State.warmStart with
  | case1 b loss u phase _ =>
    exact ⟨_, rfl, (State.blocksOnly.trans (t := b.freeAt u phase) rfl (discontinuity_blocksOnly _ _)).trans (timePlaced_blocksOnly _ _),
      (congrArg Attention.enables (timePlaced_att _ _)).trans (discontinuity_enables _ _)⟩
  | case2 b _ => exact ⟨_, rfl, (removeWithdrawn_calendarOnly b).blocks, congrArg Attention.enables (removeWithdrawn_att b)⟩

theorem warmStart_enables (fraction : Ticks) (s : State) : (s.warmStart fraction).att.enables = 0x1FFF := by
  obtain ⟨t, hw, -, henables⟩ := warmStart_cases fraction s
  rw [hw]; exact henables

theorem warmStart_link (fraction : Ticks) (s : State) : (s.warmStart fraction).link = .idle := by
  obtain ⟨t, hw, hblocks, -⟩ := warmStart_cases fraction s
  rw [hw]; exact hblocks.link

theorem warmStart_running (fraction : Ticks) (s : State) : (s.warmStart fraction).running = s.running := by
  obtain ⟨t, hw, hblocks, -⟩ := warmStart_cases fraction s
  rw [hw]; exact hblocks.running


/-! ### Every start -/

theorem started_flagged (s : State) : s.started.flagged .start = true := by
  have hflags : s.started.att.flags = (s.att.flags &&& Cause.changeOvertaken.weight) ||| Cause.start.weight := BitVec.or_comm _ _
  rw [State.flagged_iff, hflags]
  exact Cause.or_weight_meets _ _

theorem warmStart_flagged (fraction : Ticks) (s : State) : (s.warmStart fraction).flagged .start = true := by
  obtain ⟨t, hw, -, -⟩ := warmStart_cases fraction s
  rw [hw]; exact started_flagged t

/-- A start, warm or cold, ends with every enable set (R200). -/
theorem start_enables (fraction : Ticks) (s : State) : (s.start fraction).att.enables = 0x1FFF := by
  unfold State.start
  split
  · exact warmStart_enables fraction s
  · rfl

/-- A start, warm or cold, ends with START flagged (R187). -/
theorem start_flagged (fraction : Ticks) (s : State) : (s.start fraction).flagged .start = true := by
  unfold State.start
  split
  · exact warmStart_flagged fraction s
  · exact State.flagged_iff.mpr (by decide : (0x1000 : BitVec 13) &&& Cause.start.weight ≠ 0)

theorem start_running (fraction : Ticks) (s : State) : (s.start fraction).running = s.running := by
  unfold State.start
  split
  · exact warmStart_running fraction s
  · rfl

/-! ### The commands that lose the working state, and those that take a start -/

theorem lossMoment_enables {s : State} (h : s.running = true) (fraction : Ticks) : (s.lossMoment fraction).att.enables = 0 := by
  rw [State.lossMoment, if_pos h]; rfl

theorem lossMoment_running (fraction : Ticks) (s : State) : (s.lossMoment fraction).running = s.running := by
  unfold State.lossMoment; split <;> rfl

theorem running_iff {s : State} : s.running = true ↔ s.vdd = true ∧ s.resetN = true := by
  simp [State.running]

/-- VDD_LOSS stops a running part and takes its enables. -/
theorem exec_vddLoss_running {s : State} (h : s.running = true) (d : Nat) (fraction : Ticks) (good : Bool) :
    ∃ t, exec (.vddLoss d fraction good) s = .next t ∧ t.running = false ∧ t.att.enables = 0 := by
  obtain ⟨hvdd, -⟩ := running_iff.mp h
  refine ⟨vddLoss fraction good (s.whenRunning d id), rfl, ?_⟩
  rw [whenRunning_running h, id_eq, vddLoss, State.elapse_vdd, if_pos hvdd]
  exact ⟨rfl, lossMoment_enables (s := s.elapse d) h fraction⟩

/-- RESET_N_LOW stops a running part and takes its enables. -/
theorem exec_resetNLow_running {s : State} (h : s.running = true) (d : Nat) (fraction : Ticks) :
    ∃ t, exec (.resetNLow d fraction) s = .next t ∧ t.running = false ∧ t.att.enables = 0 := by
  obtain ⟨-, hreset⟩ := running_iff.mp h
  refine ⟨resetNLow fraction (s.whenRunning d id), rfl, ?_⟩
  rw [whenRunning_running h, id_eq, resetNLow, State.elapse_resetN, if_pos hreset]
  exact ⟨Bool.and_false _, lossMoment_enables (s := s.elapse d) h fraction⟩

/-- The part as the end of every start leaves it: it runs, START is flagged, and every cause is enabled (R187, R200). -/
structure State.freshlyStarted (s : State) : Prop where
  running : s.running = true
  flagged : s.flagged .start = true
  enables : s.att.enables = 0x1FFF

theorem start_freshlyStarted {s : State} (h : s.running = true) (fraction : Ticks) : (s.start fraction).freshlyStarted where
  running := (start_running fraction s).trans h
  flagged := start_flagged fraction s
  enables := start_enables fraction s

/-- POWER_UP with RESET_N high takes a start. -/
theorem exec_powerUp_started {s : State} (hvdd : s.vdd = false) (hreset : s.resetN = true) (fraction : Ticks) (high : Bool) :
    ∃ t, exec (.powerUp fraction high) s = .next t ∧ t.freshlyStarted := by
  refine ⟨powerUp fraction high s, rfl, ?_⟩
  simp only [powerUp, hvdd, hreset, Bool.false_eq_true, if_false, if_true]
  exact start_freshlyStarted rfl fraction

/-- RESET_N_RELEASE with VDD present takes a start. -/
theorem exec_resetNRelease_started {s : State} (hvdd : s.vdd = true) (hreset : s.resetN = false) (fraction : Ticks) :
    ∃ t, exec (.resetNRelease fraction) s = .next t ∧ t.freshlyStarted := by
  refine ⟨resetNRelease fraction s, rfl, ?_⟩
  simp only [resetNRelease, hvdd, hreset, Bool.false_eq_true, if_false, if_true]
  exact start_freshlyStarted rfl fraction

/-- RESET PART makes a loss moment and takes a warm start (R183). -/
theorem exec_resetPart_started {s : State} (h : s.listens) (d : Nat) (fraction : Ticks) :
    ∃ t, exec (.resetPart (.of d []) fraction) s = .next t ∧ t.freshlyStarted := by
  have hrun : s.running = true := h.1
  refine ⟨_, congrArg Host.Outcome.next (takeRequest_of h rfl), ?_, warmStart_flagged _ _, warmStart_enables _ _⟩
  exact (warmStart_running _ _).trans ((lossMoment_running _ _).trans hrun)

end Sys2Proof.Machine
end

section
/-! The Attention Unit's line and requests (R198 to R201), from the commands that stop the part and those that start it. -/

namespace Sys2Proof.Machine

/-- A start pulls ATTN_N low, since START is flagged and enabled (R187, R198). -/
theorem State.freshlyStarted.attnN {s : State} (h : s.freshlyStarted) : s.attnN = false := by
  refine (State.attnN_eq_false_iff h.running).mpr ⟨.start, State.flagged_iff.mp h.flagged, ?_⟩
  rw [h.enables]; decide

/-- Settles O10: the causes flagged and enabled decide the line; a loss moment stops the part, and a start flags START with every cause enabled. -/
theorem attnNLine : Obligations.AttnNLine := by
  refine ⟨fun s hs => State.attnN_eq_false_iff hs, fun s hs => State.attnN_stopped hs, ?_, ?_, ?_, ?_⟩
  · intro d q good s hs
    obtain ⟨t, ht, hstopped, -⟩ := exec_vddLoss_running hs d q good
    obtain ⟨u, hu, hstopped', -⟩ := exec_resetNLow_running hs d q
    exact ⟨⟨t, ht, State.attnN_stopped hstopped⟩, ⟨u, hu, State.attnN_stopped hstopped'⟩⟩
  · intro q high s hvdd hreset
    obtain ⟨t, ht, hstarted⟩ := exec_powerUp_started hvdd hreset q high
    exact ⟨t, ht, hstarted.attnN⟩
  · intro q s hvdd hreset
    obtain ⟨t, ht, hstarted⟩ := exec_resetNRelease_started hvdd hreset q
    exact ⟨t, ht, hstarted.attnN⟩
  · intro d q s hs
    obtain ⟨t, ht, hstarted⟩ := exec_resetPart_started hs d q
    exact ⟨t, ht, hstarted.attnN⟩

/-! ### The three requests -/

/-- A READ STATUS without fields that the link takes is its owner's. -/
theorem exec_readStatus {s : State} (h : s.listens) (d : Nat) :
    exec (.readStatus (.of d [])) s = .next ((s.handed (.of d [])).answer 0x01 .done (s.handed (.of d [])).statusFields) :=
  congrArg Host.Outcome.next (takeRequest_of h rfl)

/-- The end of the select period itself changes no field of the status, whose channel states stand one by one. -/
theorem statusFields_handed (p : Period) (s : State) : (s.handed p).statusFields =
    be16 s.att.flags.toNat ++ be16 s.att.enables.toNat ++ be8 (startKindCode s.att.startKind) ++ be8 s.tb.state.code ++ be8 s.tb.grade ++
      be8 s.cal.entries.length ++ (be8 (s.chan 0).state.code ++ (be8 (s.chan 1).state.code ++
        (be8 (s.chan 2).state.code ++ be8 (s.chan 3).state.code))) := rfl

/-- Settles O7: the owner answers with the status fields as they stand when the request is taken. -/
theorem readStatusReports : Obligations.ReadStatusReports := by
  intro d s hs
  rw [exec_readStatus hs, statusFields_handed]
  simp only [State.answer, Result.byte, List.append_assoc, List.cons_append, List.nil_append]

/-- Two bytes with no weight above START's are a cause mask (R199, R200). -/
theorem causeMask?_of_lt {hi lo : Byte} (h : word16 hi lo < 0x2000) : causeMask? hi lo = some (BitVec.ofNat 13 (word16 hi lo)) := if_pos h

theorem causeMask?_of_le {hi lo : Byte} (h : 0x2000 ≤ word16 hi lo) : causeMask? hi lo = none := if_neg (Nat.not_lt.mpr h)

/-- A CLEAR ATTENTION of two field bytes that the link takes is its owner's. -/
theorem exec_clearAttention {s : State} (h : s.listens) (d : Nat) (hi lo : Byte) :
    exec (.clearAttention (.of d [hi, lo])) s = .next (ownClearAttention [hi, lo] (s.handed (.of d [hi, lo]))) :=
  congrArg Host.Outcome.next (takeRequest_of h rfl)

theorem ownClearAttention_refused {hi lo : Byte} (h : causeMask? hi lo = none) (s : State) :
    ownClearAttention [hi, lo] s = s.refuse 0x02 .badParameter := by
  simp only [ownClearAttention, h]

theorem ownClearAttention_taken {hi lo : Byte} {m : BitVec 13} (h : causeMask? hi lo = some m) (s : State) :
    ownClearAttention [hi, lo] s = ({ s with att := { s.att with flags := s.att.flags &&& ~~~m } } : State).answer 0x02 .done [] := by
  simp only [ownClearAttention, h]

/-- Clearing the causes of a mask keeps a bit exactly when the mask does not hold it (R199). -/
theorem getLsbD_cleared (x : BitVec 13) (m : Nat) (k : Fin 13) :
    (x &&& ~~~BitVec.ofNat 13 m).getLsbD k = (x.getLsbD k && !m.testBit k) := by
  rw [BitVec.getLsbD_and, BitVec.getLsbD_not, BitVec.getLsbD_ofNat]
  simp

/-- Settles O8: the mask's causes are cleared bit by bit; a cause raised in the state this leaves is flagged, and pulls ATTN_N low where it is enabled. -/
theorem clearAttentionClearsItsMask : Obligations.ClearAttentionClearsItsMask := by
  intro d hi lo s hs
  have hrun : s.running = true := hs.1
  constructor
  · intro hbig
    rw [exec_clearAttention hs, ownClearAttention_refused (causeMask?_of_le hbig)]
    rfl
  · intro hmask
    rw [exec_clearAttention hs, ownClearAttention_taken (causeMask?_of_lt hmask)]
    exact ⟨_, rfl, rfl, fun k => getLsbD_cleared _ _ k, fun c => ⟨State.raise_flagged c _, fun he => State.raise_attnN hrun he⟩⟩

/-- A SET ATTENTION ENABLES of two field bytes that the link takes is its owner's. -/
theorem exec_setAttentionEnables {s : State} (h : s.listens) (d : Nat) (hi lo : Byte) :
    exec (.setAttentionEnables (.of d [hi, lo])) s = .next (ownSetAttentionEnables [hi, lo] (s.handed (.of d [hi, lo]))) :=
  congrArg Host.Outcome.next (takeRequest_of h rfl)

theorem ownSetAttentionEnables_refused {hi lo : Byte} (h : causeMask? hi lo = none) (s : State) :
    ownSetAttentionEnables [hi, lo] s = s.refuse 0x03 .badParameter := by
  simp only [ownSetAttentionEnables, h]

theorem ownSetAttentionEnables_taken {hi lo : Byte} {m : BitVec 13} (h : causeMask? hi lo = some m) (s : State) :
    ownSetAttentionEnables [hi, lo] s = ({ s with att := { s.att with enables := m } } : State).answer 0x03 .done [] := by
  simp only [ownSetAttentionEnables, h]

/-- Settles O9: the mask replaces the enables and ATTN_N is read off the state this leaves; a loss moment takes the enables and every start sets them all. -/
theorem setEnablesReplacesThem : Obligations.SetEnablesReplacesThem := by
  refine ⟨?_, ?_, ?_, ?_, ?_⟩
  · intro d hi lo s hs
    have hrun : s.running = true := hs.1
    constructor
    · intro hbig
      rw [exec_setAttentionEnables hs, ownSetAttentionEnables_refused (causeMask?_of_le hbig)]
      rfl
    · intro hmask
      rw [exec_setAttentionEnables hs, ownSetAttentionEnables_taken (causeMask?_of_lt hmask)]
      exact ⟨_, rfl, rfl, State.attnN_running hrun⟩
  · intro d q good s hs
    obtain ⟨t, ht, -, hlost⟩ := exec_vddLoss_running hs d q good
    obtain ⟨u, hu, -, hlost'⟩ := exec_resetNLow_running hs d q
    exact ⟨⟨t, ht, hlost⟩, ⟨u, hu, hlost'⟩⟩
  · intro q high s hvdd hreset
    obtain ⟨t, ht, hstarted⟩ := exec_powerUp_started hvdd hreset q high
    exact ⟨t, ht, hstarted.enables⟩
  · intro q s hvdd hreset
    obtain ⟨t, ht, hstarted⟩ := exec_resetNRelease_started hvdd hreset q
    exact ⟨t, ht, hstarted.enables⟩
  · intro d q s hs
    obtain ⟨t, ht, hstarted⟩ := exec_resetPart_started hs d q
    exact ⟨t, ht, hstarted.enables⟩

end Sys2Proof.Machine
end

section
/-! Overruns (R191, R192): every request command is a select period that the link judges, and the owner it is handed to leaves no reply held. -/

namespace Sys2Proof.Machine

/-! ### What an owner leaves on the link -/

/-- No reply is held: whatever reply was held is discarded (R191). -/
def State.holdsNoReply (s : State) : Prop := ∀ r, s.link ≠ .replyHeld r

theorem holdsNoReply_of_working {s : State} {w : Work} (h : s.link = .working w) : s.holdsNoReply := by
  intro r; rw [h]; nofun

/-! #### Attention Unit and Retention Domain -/

theorem ownReadStatus_holdsNoReply (f : List Byte) (s : State) : (ownReadStatus f s).holdsNoReply := by
  fun_cases ownReadStatus <;> exact holdsNoReply_of_working rfl

theorem ownClearAttention_holdsNoReply (f : List Byte) (s : State) : (ownClearAttention f s).holdsNoReply := by
  fun_cases ownClearAttention <;> exact holdsNoReply_of_working rfl

theorem ownSetAttentionEnables_holdsNoReply (f : List Byte) (s : State) : (ownSetAttentionEnables f s).holdsNoReply := by
  fun_cases ownSetAttentionEnables <;> exact holdsNoReply_of_working rfl

theorem ownResetPart_holdsNoReply (fraction : Ticks) (f : List Byte) (s : State) : (ownResetPart fraction f s).holdsNoReply := by
  fun_cases ownResetPart with
  | case1 => intro r; rw [warmStart_link]; nofun
  | case2 => exact holdsNoReply_of_working rfl

/-! #### Timebase and Reference Monitor -/

theorem ownReadTime_holdsNoReply (f : List Byte) (s : State) : (ownReadTime f s).holdsNoReply := by
  fun_cases ownReadTime <;> exact holdsNoReply_of_working rfl

theorem ownSetTime_holdsNoReply (f : List Byte) (s : State) : (ownSetTime f s).holdsNoReply := by
  fun_cases ownSetTime <;> exact holdsNoReply_of_working rfl

theorem ownAdoptReference_holdsNoReply (f : List Byte) (s : State) : (ownAdoptReference f s).holdsNoReply := by
  fun_cases ownAdoptReference <;> exact holdsNoReply_of_working rfl

theorem ownConfigureReference_holdsNoReply (f : List Byte) (s : State) : (ownConfigureReference f s).holdsNoReply := by
  fun_cases ownConfigureReference <;> exact holdsNoReply_of_working rfl

theorem ownReadReference_holdsNoReply (f : List Byte) (s : State) : (ownReadReference f s).holdsNoReply := by
  fun_cases ownReadReference <;> exact holdsNoReply_of_working rfl

/-! #### Profile Table -/

theorem ownDefineProfile_holdsNoReply (f : List Byte) (s : State) : (ownDefineProfile f s).holdsNoReply := by
  fun_cases ownDefineProfile <;> exact holdsNoReply_of_working rfl

theorem ownClearProfile_holdsNoReply (f : List Byte) (s : State) : (ownClearProfile f s).holdsNoReply := by
  fun_cases ownClearProfile <;> exact holdsNoReply_of_working rfl

theorem ownReadProfile_holdsNoReply (f : List Byte) (s : State) : (ownReadProfile f s).holdsNoReply := by
  fun_cases ownReadProfile <;> exact holdsNoReply_of_working rfl

/-! #### Change Calendar -/

theorem ownEnterChange_holdsNoReply (f : List Byte) (s : State) : (ownEnterChange f s).holdsNoReply := by
  fun_cases ownEnterChange <;> exact holdsNoReply_of_working rfl

theorem amendLevel_holdsNoReply (e : Entry) (level : Option Nat) (auto : Option Bool) (s : State) :
    (s.amendLevel e level auto).holdsNoReply := by
  fun_cases State.amendLevel <;> exact holdsNoReply_of_working rfl

theorem amendTerms_holdsNoReply (e : Entry) (t : Option Terms) (level : Option Nat) (auto : Option Bool) (s : State) :
    (s.amendTerms e t level auto).holdsNoReply := by
  fun_cases State.amendTerms <;> exact holdsNoReply_of_working rfl

theorem ownAmendChange_holdsNoReply (f : List Byte) (s : State) : (ownAmendChange f s).holdsNoReply := by
  fun_cases ownAmendChange
  case case4 => exact amendLevel_holdsNoReply _ _ _ _
  case case5 => exact amendTerms_holdsNoReply _ _ _ _ _
  all_goals exact holdsNoReply_of_working rfl

theorem ownWithdrawChange_holdsNoReply (f : List Byte) (s : State) : (ownWithdrawChange f s).holdsNoReply := by
  fun_cases ownWithdrawChange <;> exact holdsNoReply_of_working rfl

theorem ownRetireChange_holdsNoReply (f : List Byte) (s : State) : (ownRetireChange f s).holdsNoReply := by
  fun_cases ownRetireChange <;> exact holdsNoReply_of_working rfl

theorem ownReadChange_holdsNoReply (f : List Byte) (s : State) : (ownReadChange f s).holdsNoReply := by
  fun_cases ownReadChange <;> exact holdsNoReply_of_working rfl

theorem ownFindChange_holdsNoReply (f : List Byte) (s : State) : (ownFindChange f s).holdsNoReply := by
  fun_cases ownFindChange <;> exact holdsNoReply_of_working rfl

/-! #### Channel Controllers and Delay Meter -/

/-- A channel request leaves what its act on the channel leaves, or a refusal. -/
theorem ownChannel_holdsNoReply {act : Fin 4 → State → State} (h : ∀ n s, (act n s).holdsNoReply) (code : Byte) (f : List Byte)
    (s : State) : (ownChannel code act f s).holdsNoReply := by
  fun_cases ownChannel
  case case1 => exact h _ _
  all_goals exact holdsNoReply_of_working rfl

theorem ownConfigureChannel_holdsNoReply (f : List Byte) (s : State) : (ownConfigureChannel f s).holdsNoReply := by
  fun_cases ownConfigureChannel <;> exact holdsNoReply_of_working rfl

theorem ownCarrierOn_holdsNoReply (n : Fin 4) (s : State) : (ownCarrierOn n s).holdsNoReply := by
  fun_cases ownCarrierOn <;> exact holdsNoReply_of_working rfl

theorem ownGoOnAir_holdsNoReply (n : Fin 4) (s : State) : (ownGoOnAir n s).holdsNoReply := by
  fun_cases ownGoOnAir <;> exact holdsNoReply_of_working rfl

theorem ownHold_holdsNoReply (n : Fin 4) (s : State) : (ownHold n s).holdsNoReply := by
  fun_cases ownHold <;> exact holdsNoReply_of_working rfl

theorem ownResume_holdsNoReply (n : Fin 4) (s : State) : (ownResume n s).holdsNoReply := by
  fun_cases ownResume <;> exact holdsNoReply_of_working rfl

theorem ownCarrierOff_holdsNoReply (n : Fin 4) (s : State) : (ownCarrierOff n s).holdsNoReply := by
  fun_cases ownCarrierOff <;> exact holdsNoReply_of_working rfl

theorem ownClearFault_holdsNoReply (n : Fin 4) (s : State) : (ownClearFault n s).holdsNoReply := by
  fun_cases ownClearFault <;> exact holdsNoReply_of_working rfl

theorem ownReadChannel_holdsNoReply (n : Fin 4) (s : State) : (ownReadChannel n s).holdsNoReply :=
  holdsNoReply_of_working rfl

theorem ownMeasureDelay_holdsNoReply (f : List Byte) (s : State) : (ownMeasureDelay f s).holdsNoReply := by
  fun_cases ownMeasureDelay <;> exact holdsNoReply_of_working rfl

theorem ownReadMeasurement_holdsNoReply (f : List Byte) (s : State) : (ownReadMeasurement f s).holdsNoReply := by
  fun_cases ownReadMeasurement <;> exact holdsNoReply_of_working rfl

/-! ### Request commands as select periods -/

/-- A well-formed request command is a select period with its code, and its owner leaves no reply held; an unknown request's cycles beyond the last whole byte go
unjudged (R190). -/
theorem exec_request {c : Instr} {code : Byte} {p : Period} (hw : c.wellFormed = true) (hq : c.request? = some (code, p)) :
    ∃ total owner x, (∀ s, exec c s = .next (s.takeRequest code total owner { p with extra := x })) ∧
      ∀ f s, (owner f s).holdsNoReply := by
  cases c with
  | readStatus => cases hq; exact ⟨_, _, _, fun _ => rfl, ownReadStatus_holdsNoReply⟩
  | clearAttention => cases hq; exact ⟨_, _, _, fun _ => rfl, ownClearAttention_holdsNoReply⟩
  | setAttentionEnables => cases hq; exact ⟨_, _, _, fun _ => rfl, ownSetAttentionEnables_holdsNoReply⟩
  | resetPart => cases hq; exact ⟨_, _, _, fun _ => rfl, ownResetPart_holdsNoReply _⟩
  | readTime => cases hq; exact ⟨_, _, _, fun _ => rfl, ownReadTime_holdsNoReply⟩
  | setTime => cases hq; exact ⟨_, _, _, fun _ => rfl, ownSetTime_holdsNoReply⟩
  | adoptReference => cases hq; exact ⟨_, _, _, fun _ => rfl, ownAdoptReference_holdsNoReply⟩
  | configureReference => cases hq; exact ⟨_, _, _, fun _ => rfl, ownConfigureReference_holdsNoReply⟩
  | readReference => cases hq; exact ⟨_, _, _, fun _ => rfl, ownReadReference_holdsNoReply⟩
  | defineProfile => cases hq; exact ⟨_, _, _, fun _ => rfl, ownDefineProfile_holdsNoReply⟩
  | clearProfile => cases hq; exact ⟨_, _, _, fun _ => rfl, ownClearProfile_holdsNoReply⟩
  | readProfile => cases hq; exact ⟨_, _, _, fun _ => rfl, ownReadProfile_holdsNoReply⟩
  | enterChange => cases hq; exact ⟨_, _, _, fun _ => rfl, ownEnterChange_holdsNoReply⟩
  | amendChange => cases hq; exact ⟨_, _, _, fun _ => rfl, ownAmendChange_holdsNoReply⟩
  | withdrawChange => cases hq; exact ⟨_, _, _, fun _ => rfl, ownWithdrawChange_holdsNoReply⟩
  | retireChange => cases hq; exact ⟨_, _, _, fun _ => rfl, ownRetireChange_holdsNoReply⟩
  | readChange => cases hq; exact ⟨_, _, _, fun _ => rfl, ownReadChange_holdsNoReply⟩
  | findChange => cases hq; exact ⟨_, _, _, fun _ => rfl, ownFindChange_holdsNoReply⟩
  | configureChannel => cases hq; exact ⟨_, _, _, fun _ => rfl, ownConfigureChannel_holdsNoReply⟩
  | carrierOn => cases hq; exact ⟨_, _, _, fun _ => rfl, ownChannel_holdsNoReply ownCarrierOn_holdsNoReply _⟩
  | goOnAir => cases hq; exact ⟨_, _, _, fun _ => rfl, ownChannel_holdsNoReply ownGoOnAir_holdsNoReply _⟩
  | hold => cases hq; exact ⟨_, _, _, fun _ => rfl, ownChannel_holdsNoReply ownHold_holdsNoReply _⟩
  | resume => cases hq; exact ⟨_, _, _, fun _ => rfl, ownChannel_holdsNoReply ownResume_holdsNoReply _⟩
  | carrierOff => cases hq; exact ⟨_, _, _, fun _ => rfl, ownChannel_holdsNoReply ownCarrierOff_holdsNoReply _⟩
  | clearFault => cases hq; exact ⟨_, _, _, fun _ => rfl, ownChannel_holdsNoReply ownClearFault_holdsNoReply _⟩
  | readChannel => cases hq; exact ⟨_, _, _, fun _ => rfl, ownChannel_holdsNoReply ownReadChannel_holdsNoReply _⟩
  | measureDelay => cases hq; exact ⟨_, _, _, fun _ => rfl, ownMeasureDelay_holdsNoReply⟩
  | readMeasurement => cases hq; exact ⟨_, _, _, fun _ => rfl, ownReadMeasurement_holdsNoReply⟩
  | unknownRequest k q =>
    cases hq
    exact ⟨_, _, 0, fun _ => if_pos hw, fun _ _ => holdsNoReply_of_working rfl⟩
  | _ => cases hq

/-- A request that the link takes discards the reply held before, whatever its length. -/
theorem takeRequest_holdsNoReply {s : State} (h : s.listens) {code : Byte} {total : Nat} {owner : List Byte → State → State} {p : Period}
    (hs : p.stale = false) (ho : ∀ f s, (owner f s).holdsNoReply) : (s.takeRequest code total owner p).holdsNoReply := by
  by_cases hl : p.fields.length + 1 = total ∧ p.extra = 0
  · obtain ⟨hlength, hextra⟩ := hl
    rw [takeRequest_handed h hs hlength hextra]
    exact ho _ _
  · rw [takeRequest_badLength h hs hl]
    exact holdsNoReply_of_working rfl

/-! ### Overruns -/

/-- In WORKING, SDO gives the no-reply header and then 0x00 (R193). -/
theorem sdoBytes_working {s : State} {w : Work} (h : s.link = .working w) (n : Nat) :
    s.sdoBytes n = ([0x00, 0xFF] : List Byte).take n ++ List.replicate (n - 2) 0x00 := by
  rw [State.sdoBytes, h]; rfl

/-- A completion holds the reply formed (R191). -/
theorem exec_requestCompletion_formed {s : State} {reply : List Byte} (hr : s.running = true) (h : s.link = .working (.formed reply)) :
    exec (.requestCompletion 0) s = .next { s with link := .replyHeld reply } := by
  have hdone : requestCompletion s = { s with link := .replyHeld reply } := by
    simp only [requestCompletion, h]
  exact congrArg Host.Outcome.next ((whenRunning_running hr 0 _).trans hdone)

/-- Settles O4: in WORKING the period is an overrun that keeps the link; after the completion the link takes the request, whose owner leaves no reply held. -/
theorem overrunDropsTheRequest : Obligations.OverrunDropsTheRequest := by
  intro c code p s hw hq hrun hstale
  obtain ⟨total, owner, x, hexec, howner⟩ := exec_request hw hq
  constructor
  · intro w hlink
    rw [hexec, takeRequest_overrun (p := { p with extra := x }) hrun hlink hstale, ← sdoBytes_working hlink]
    rfl
  · intro reply hlink
    have hlistens : ({ s with link := .replyHeld reply } : State).listens := ⟨hrun, rfl⟩
    exact ⟨_, exec_requestCompletion_formed hrun hlink, rfl, _, hexec _,
      takeRequest_holdsNoReply (p := { p with extra := x }) hlistens hstale howner⟩

end Sys2Proof.Machine
end

section
/-! The calendar as a collection (R56 to R62): an entry found by its ident, an entry replaced or removed with the ring following, and what that keeps of a sound calendar. -/

namespace Sys2Proof.Machine

/-! ### Entries and idents -/

theorem entry_eq_of_ident {l : List Entry} (h : (l.map Entry.ident).Nodup) {e f : Entry} (he : e ∈ l) (hf : f ∈ l)
    (hi : e.ident = f.ident) : e = f :=
  List.inj_on_of_nodup_map h he hf hi

theorem findEntry_mem {s : State} {i : Nat} {e : Entry} (h : s.findEntry i = some e) : e ∈ s.cal.entries ∧ e.ident = i :=
  ⟨List.mem_of_find?_eq_some h, by simpa using List.find?_some h⟩

theorem findEntry_eq_none_iff {s : State} {i : Nat} : s.findEntry i = none ↔ ∀ e ∈ s.cal.entries, e.ident ≠ i := by
  simp [State.findEntry]

/-- The ident of an entry finds it, where the idents all differ. -/
theorem findEntry_ident {s : State} (h : (s.cal.entries.map Entry.ident).Nodup) {e : Entry} (he : e ∈ s.cal.entries) :
    s.findEntry e.ident = some e := by
  cases hf : s.findEntry e.ident with
  | none => exact absurd rfl (findEntry_eq_none_iff.mp hf e he)
  | some f =>
    obtain ⟨hmem, hi⟩ := findEntry_mem hf
    rw [entry_eq_of_ident h hmem he hi]

/-- Changing the one entry of an ident, as a filter that keeps every entry. -/
theorem map_ident_eq_filterMap {l : List Entry} (h : (l.map Entry.ident).Nodup) {e : Entry} (he : e ∈ l) (f : Entry → Entry) :
    (l.map fun x => if x.ident = e.ident then f x else x) = l.filterMap fun x => if x.ident = e.ident then some (f e) else some x := by
  rw [← List.filterMap_eq_map]
  refine List.filterMap_congr fun x hx => ?_
  by_cases hi : x.ident = e.ident
  · simp [entry_eq_of_ident h hx he hi]
  · simp [hi]

theorem filter_ident_eq_filterMap (l : List Entry) (i : Nat) :
    (l.filter fun x => x.ident ≠ i) = l.filterMap fun x => if x.ident = i then none else some x := by
  rw [← List.filterMap_eq_filter]
  refine List.filterMap_congr fun x _ => ?_
  by_cases hi : x.ident = i <;> simp [hi, Option.guard]

/-! ### A sound calendar, field by field -/

/-- The entries and the ring of a sound calendar, the ring's idents as those of the ANNOUNCING and COMMITTED entries. -/
structure Calendar.Holds (c : Calendar) : Prop where
  length : c.entries.length ≤ 32
  ordered : c.entries.Pairwise fun e f => e.precedes f = true
  idents : (c.entries.map Entry.ident).Nodup
  range : ∀ e ∈ c.entries, 1 ≤ e.ident ∧ e.ident ≤ 65535
  ringNodup : c.ring.Nodup
  mem_ring : ∀ i, i ∈ c.ring ↔ ∃ e ∈ c.entries, e.ident = i ∧ e.state.inRing = true
  next : 1 ≤ c.nextIdent ∧ c.nextIdent ≤ 65535

theorem Calendar.sound_iff {c : Calendar} : c.sound ↔ c.Holds := by
  constructor
  · rintro ⟨hlen, hord, hid, hrange, hnodup, hring, hin, hlow, hhigh⟩
    refine ⟨hlen, hord, hid, hrange, hnodup, fun i => ⟨hring i, ?_⟩, hlow, hhigh⟩
    rintro ⟨e, he, rfl, hr⟩
    exact hin e he hr
  · rintro ⟨hlen, hord, hid, hrange, hnodup, hmem, hlow, hhigh⟩
    exact ⟨hlen, hord, hid, hrange, hnodup, fun i hi => (hmem i).mp hi, fun e he hr => (hmem _).mpr ⟨e, he, rfl, hr⟩, hlow, hhigh⟩

theorem Calendar.sound.holds {c : Calendar} (h : c.sound) : c.Holds := Calendar.sound_iff.mp h

/-- An entry of a sound calendar stands in the ring exactly in ANNOUNCING and COMMITTED (R61). -/
theorem Calendar.sound.ident_mem_ring {c : Calendar} (h : c.sound) {e : Entry} (he : e ∈ c.entries) :
    e.ident ∈ c.ring ↔ e.state.inRing = true := by
  rw [h.holds.mem_ring]
  constructor
  · rintro ⟨f, hf, hi, hr⟩
    rwa [← entry_eq_of_ident h.holds.idents hf he hi]
  · exact fun hr => ⟨e, he, rfl, hr⟩

/-- A function of the entries that keeps the ident and the effective instant of whatever it keeps leaves the idents a part of those there were. -/
theorem filterMap_idents_sublist {f : Entry → Option Entry} {l : List Entry} (hf : ∀ x ∈ l, ∀ y ∈ f x, y.ident = x.ident) :
    ((l.filterMap f).map Entry.ident).Sublist (l.map Entry.ident) := by
  induction l with
  | nil => exact .slnil
  | cons x l ih =>
    have hl := ih fun z hz => hf z (List.mem_cons_of_mem _ hz)
    cases hx : f x with
    | none => simpa [hx] using hl.cons x.ident
    | some y =>
      have hy : y.ident = x.ident := hf x List.mem_cons_self y hx
      simpa [hx, hy] using hl

/-- A sound calendar whose entries are kept with their idents and instants, or removed, is sound with a ring that fits (R56, R61). -/
theorem Calendar.sound.filterMap {c d : Calendar} (h : c.sound) {f : Entry → Option Entry}
    (hf : ∀ x ∈ c.entries, ∀ y ∈ f x, y.ident = x.ident ∧ y.instant = x.instant) (hentries : d.entries = c.entries.filterMap f)
    (hnodup : d.ring.Nodup) (hmem : ∀ i, i ∈ d.ring ↔ ∃ e ∈ d.entries, e.ident = i ∧ e.state.inRing = true)
    (hnext : d.nextIdent = c.nextIdent) : d.sound := by
  obtain ⟨hlen, hord, hid, hrange, -, -, hlow⟩ := h.holds
  refine Calendar.sound_iff.mpr ⟨?_, ?_, ?_, ?_, hnodup, hmem, hnext ▸ hlow⟩
  · rw [hentries]
    exact (List.length_filterMap_le _ _).trans hlen
  · rw [hentries, List.pairwise_filterMap]
    refine hord.imp_of_mem fun {x y} hx hy hxy x' hx' y' hy' => ?_
    obtain ⟨hi, ht⟩ := hf x hx x' hx'
    obtain ⟨hi', ht'⟩ := hf y hy y' hy'
    simpa only [Entry.precedes, hi, ht, hi', ht'] using hxy
  · rw [hentries]
    exact (filterMap_idents_sublist fun x hx y hy => (hf x hx y hy).1).nodup hid
  · intro e he
    rw [hentries, List.mem_filterMap] at he
    obtain ⟨x, hx, hxe⟩ := he
    rw [(hf x hx e hxe).1]
    exact hrange x hx

/-! ### One entry replaced or removed -/

/-- The calendar with the entry of the ident `i` replaced by `r`, or removed; the ring follows the state it takes (R56, R60 to R62). -/
def Calendar.put (i : Nat) (r : Option Entry) (c : Calendar) : Calendar :=
  { c with
    entries := c.entries.filterMap fun x => if x.ident = i then r else some x
    ring := if r.any fun x => x.state.inRing then (if i ∈ c.ring then c.ring else c.ring ++ [i]) else c.ring.filter fun j => j ≠ i }

theorem Calendar.mem_put {c : Calendar} {i : Nat} {r : Option Entry} {y : Entry} :
    y ∈ (c.put i r).entries ↔ (y ∈ c.entries ∧ y.ident ≠ i) ∨ (r = some y ∧ ∃ x ∈ c.entries, x.ident = i) := by
  simp only [Calendar.put, List.mem_filterMap]
  constructor
  · rintro ⟨x, hx, hy⟩
    by_cases hi : x.ident = i
    · rw [if_pos hi] at hy
      exact .inr ⟨hy, x, hx, hi⟩
    · rw [if_neg hi, Option.some.injEq] at hy
      subst hy
      exact .inl ⟨hx, hi⟩
  · rintro (⟨hy, hi⟩ | ⟨hr, x, hx, hi⟩)
    · exact ⟨y, hy, if_neg hi⟩
    · exact ⟨x, hx, by rw [if_pos hi, hr]⟩

theorem Calendar.mem_put_ring {c : Calendar} {i j : Nat} {r : Option Entry} :
    j ∈ (c.put i r).ring ↔ (j ∈ c.ring ∧ j ≠ i) ∨ (j = i ∧ ∃ x ∈ r, x.state.inRing = true) := by
  have hany : (∃ x ∈ r, x.state.inRing = true) ↔ (r.any fun x => x.state.inRing) = true := by simp [Option.any_eq_true]
  rw [hany]
  simp only [Calendar.put]
  split
  · next hr =>
    rw [hr]
    split
    · by_cases hj : j = i <;> simp_all
    · by_cases hj : j = i <;> simp_all
  · next hr => simp [hr]

theorem Calendar.put_ring_nodup {c : Calendar} (h : c.ring.Nodup) (i : Nat) (r : Option Entry) : (c.put i r).ring.Nodup := by
  simp only [Calendar.put]
  split
  · split
    · exact h
    · next hi => exact List.nodup_append.mpr ⟨h, List.nodup_singleton i, by simp only [List.mem_singleton]; rintro a ha _ rfl rfl; exact hi ha⟩
  · exact h.filter _

/-- Replacing an entry by one of its ident and instant, or removing it, keeps the calendar sound. -/
theorem Calendar.sound.put {c : Calendar} (h : c.sound) {e : Entry} (he : e ∈ c.entries) {r : Option Entry}
    (hr : ∀ x ∈ r, x.ident = e.ident ∧ x.instant = e.instant) : (c.put e.ident r).sound := by
  refine h.filterMap (f := fun x => if x.ident = e.ident then r else some x) ?_ rfl (Calendar.put_ring_nodup h.holds.ringNodup _ _) ?_ rfl
  · intro x hx y hy
    by_cases hi : x.ident = e.ident
    · rw [entry_eq_of_ident h.holds.idents hx he hi] at hy ⊢
      exact hr y (by simpa using hy)
    · simp only [hi, if_false, Option.mem_def, Option.some.injEq] at hy
      rw [hy]; exact ⟨rfl, rfl⟩
  · intro i
    rw [Calendar.mem_put_ring]
    simp only [Calendar.mem_put, h.holds.mem_ring]
    constructor
    · rintro (⟨⟨x, hx, rfl, hin⟩, hi⟩ | ⟨rfl, x, hx, hin⟩)
      · exact ⟨x, .inl ⟨hx, hi⟩, rfl, hin⟩
      · exact ⟨x, .inr ⟨hx, e, he, rfl⟩, (hr x hx).1, hin⟩
    · rintro ⟨x, ⟨hx, hi⟩ | ⟨hx, -⟩, rfl, hin⟩
      · exact .inl ⟨⟨x, hx, rfl, hin⟩, hi⟩
      · exact .inr ⟨(hr x hx).1, x, hx, hin⟩

/-- An entry put back as it is changes nothing. -/
theorem Calendar.sound.put_self {c : Calendar} (h : c.sound) {e : Entry} (he : e ∈ c.entries) : c.put e.ident (some e) = c := by
  have hentries : (c.entries.filterMap fun x => if x.ident = e.ident then some e else some x) = c.entries := by
    simpa using (map_ident_eq_filterMap h.holds.idents he id).symm
  have hring := h.ident_mem_ring he
  simp only [Calendar.put, hentries, Option.any_some]
  by_cases hin : e.state.inRing = true
  · simp [hin, hring.mpr hin]
  · have hout : e.ident ∉ c.ring := fun hi => hin (hring.mp hi)
    rw [if_neg hin, List.filter_eq_self.mpr]
    intro j hj
    simp only [ne_eq, decide_eq_true_eq]
    rintro rfl
    exact hout hj

/-- Two replacements of one entry make the second, unless the second joins a ring that the first left. -/
theorem Calendar.put_put {c : Calendar} {i : Nat} {x : Entry} (hx : x.ident = i) {r : Option Entry}
    (hring : (∃ y ∈ r, y.state.inRing = true) → x.state.inRing = true) : (c.put i (some x)).put i r = c.put i r := by
  have hentries : ((c.entries.filterMap fun z => if z.ident = i then some x else some z).filterMap fun z => if z.ident = i then r else some z) =
      c.entries.filterMap fun z => if z.ident = i then r else some z := by
    rw [List.filterMap_filterMap]
    refine List.filterMap_congr fun z _ => ?_
    by_cases hz : z.ident = i <;> simp [hz, hx]
  have hany : (∃ y ∈ r, y.state.inRing = true) ↔ (r.any fun y => y.state.inRing) = true := by simp [Option.any_eq_true]
  rw [hany] at hring
  simp only [Calendar.put, hentries, Option.any_some]
  by_cases hr : (r.any fun y => y.state.inRing) = true
  · by_cases hi : i ∈ c.ring <;> simp [hr, hring hr, hi]
  · by_cases hxr : x.state.inRing = true
    · by_cases hi : i ∈ c.ring <;> simp [hr, hxr, hi, List.filter_append]
    · simp [hr, hxr, List.filter_filter]

/-- A replacement on the same side of the ring leaves the ring. -/
theorem Calendar.sound.put_ring {c : Calendar} (h : c.sound) {e x : Entry} (he : e ∈ c.entries) (hin : x.state.inRing = e.state.inRing) :
    (c.put e.ident (some x)).ring = c.ring := by
  have hself : (c.put e.ident (some e)).ring = c.ring := by rw [h.put_self he]
  simp only [Calendar.put, Option.any_some, hin] at hself ⊢
  exact hself

/-- After a replacement on the same side of the ring, a second one makes the second. -/
theorem Calendar.sound.put_put {c : Calendar} (h : c.sound) {e x : Entry} (he : e ∈ c.entries) (hx : x.ident = e.ident)
    (hin : x.state.inRing = e.state.inRing) (r : Option Entry) : (c.put e.ident (some x)).put e.ident r = c.put e.ident r := by
  have hring := h.put_ring he hin
  have hentries : ((c.put e.ident (some x)).put e.ident r).entries = (c.put e.ident r).entries := by
    simp only [Calendar.put]
    rw [List.filterMap_filterMap]
    refine List.filterMap_congr fun z _ => ?_
    by_cases hz : z.ident = e.ident <;> simp [hz, hx]
  have hfinal : ((c.put e.ident (some x)).put e.ident r).ring = (c.put e.ident r).ring := by
    unfold Calendar.put at hring ⊢
    simp only at hring ⊢
    rw [hring]
  exact congrArg₂ (fun es ring => ({ c with entries := es, ring := ring } : Calendar)) hentries hfinal

/-! ### The operations of the collection and the ring as replacements -/

theorem leaveRing_cal (i : Nat) (s : State) : (s.leaveRing i).cal = { s.cal with ring := s.cal.ring.filter fun j => j ≠ i } := by
  unfold State.leaveRing
  split
  · rfl
  · next hi =>
    have hring : (s.cal.ring.filter fun j => j ≠ i) = s.cal.ring := by
      refine List.filter_eq_self.mpr fun j hj => ?_
      simp only [ne_eq, decide_eq_true_eq]
      rintro rfl
      exact hi hj
    rw [hring]

theorem joinRing_cal (i : Nat) (s : State) :
    (s.joinRing i).cal = { s.cal with ring := if i ∈ s.cal.ring then s.cal.ring else s.cal.ring ++ [i] } := by
  unfold State.joinRing
  split <;> rfl

theorem removeEntry_cal (i : Nat) (s : State) : (s.removeEntry i).cal = s.cal.put i none := by
  simp only [State.removeEntry, leaveRing_cal, Calendar.put, filter_ident_eq_filterMap]
  rfl

variable {s : State} {e : Entry} {f : Entry → Entry}

/-- An entry changed to a state on the same side of the ring. -/
theorem modifyEntry_cal_put (h : s.cal.sound) (he : e ∈ s.cal.entries) (hin : (f e).state.inRing = e.state.inRing) :
    (s.modifyEntry e.ident f).cal = s.cal.put e.ident (some (f e)) := by
  rw [State.modifyEntry_cal, map_ident_eq_filterMap h.holds.idents he]
  exact congrArg (fun ring => ({ s.cal with entries := (s.cal.put e.ident (some (f e))).entries, ring := ring } : Calendar))
    (h.put_ring he hin).symm

/-- An entry changed to a state of the ring, which it joins. -/
theorem modifyEntry_joinRing_cal (h : s.cal.sound) (he : e ∈ s.cal.entries) (hin : (f e).state.inRing = true) :
    ((s.modifyEntry e.ident f).joinRing e.ident).cal = s.cal.put e.ident (some (f e)) := by
  rw [joinRing_cal, State.modifyEntry_cal, map_ident_eq_filterMap h.holds.idents he]
  simp [Calendar.put, hin]

/-- An entry changed to a state outside the ring, which it leaves. -/
theorem modifyEntry_leaveRing_cal (h : s.cal.sound) (he : e ∈ s.cal.entries) (hout : (f e).state.inRing = false) :
    ((s.modifyEntry e.ident f).leaveRing e.ident).cal = s.cal.put e.ident (some (f e)) := by
  rw [leaveRing_cal, State.modifyEntry_cal, map_ident_eq_filterMap h.holds.idents he]
  simp [Calendar.put, hout]

theorem leaveRing_modifyEntry_cal (h : s.cal.sound) (he : e ∈ s.cal.entries) (hout : (f e).state.inRing = false) :
    ((s.leaveRing e.ident).modifyEntry e.ident f).cal = s.cal.put e.ident (some (f e)) := by
  rw [State.modifyEntry_cal, leaveRing_cal, map_ident_eq_filterMap h.holds.idents he]
  simp [Calendar.put, hout]

/-- What becomes of an entry that is DONE with an outcome: auto-retire removes it (R55, R71). -/
def Entry.finished (o : EntryOutcome) (e : Entry) : Option Entry :=
  if e.autoRetire then none else some { e with state := .done, outcome := some o }

theorem finishEntry_cal (h : s.cal.sound) (he : e ∈ s.cal.entries) (o : EntryOutcome) :
    (s.finishEntry e o).cal = s.cal.put e.ident (e.finished o) := by
  have hdone := leaveRing_modifyEntry_cal (f := fun e => { e with state := .done, outcome := some o }) h he rfl
  unfold State.finishEntry Entry.finished
  dsimp only
  split
  · rw [removeEntry_cal, hdone, Calendar.put_put (by rfl) (by simp)]
  · exact hdone

@[simp] theorem applyPayload_cal (p : Payload) (s : State) : (s.applyPayload p).cal = s.cal := by rw [applyPayload_frame]

@[simp] theorem release_cal (i : Nat) (s : State) : (s.release i).cal = s.cal := by rw [release_frame]

end Sys2Proof.Machine
end

section
/-! What the boundary pass and the discontinuity procedure make of one entry (R64 to R76), and that each keeps the entry's terms, a set locked mark, and marks that fit its state. -/

namespace Sys2Proof.Machine

/-! ### What an entry keeps -/

/-- `x` is what became of `e`: the ident and the terms are those of `e`, a set mark stays set, and fitting marks still fit (R54, R55). -/
structure Entry.Carries (e x : Entry) : Prop where
  ident : x.ident = e.ident
  instant : x.instant = e.instant
  lead : x.lead = e.lead
  payload : x.payload = e.payload
  locked : e.locked = true → x.locked = true
  fits : e.marksFit → x.marksFit

theorem Entry.Carries.refl (e : Entry) : e.Carries e := ⟨rfl, rfl, rfl, rfl, id, id⟩

theorem Entry.Carries.trans {e x y : Entry} (h : e.Carries x) (k : x.Carries y) : e.Carries y :=
  ⟨k.ident.trans h.ident, k.instant.trans h.instant, k.lead.trans h.lead, k.payload.trans h.payload, k.locked ∘ h.locked, k.fits ∘ h.fits⟩

/-! ### The boundary pass, entry by entry (R64) -/

/-- Window opening (R65). -/
def Entry.opened (now : Nat) (e : Entry) : Entry :=
  if e.state = .scheduled ∧ e.announceStart ≤ now then
    { e with state := if e.commitPoint ≤ now then .committed else .announcing, locked := true }
  else e

/-- Commit point (R66). -/
def Entry.committing (now : Nat) (e : Entry) : Entry :=
  if e.state = .announcing ∧ e.commitPoint ≤ now then { e with state := .committed } else e

/-- The outcome that a LEAP entry whose leap was not executed gives, and any other (R69). -/
def Entry.effectOutcome (e : Entry) : EntryOutcome :=
  match e.kind with
  | .leapInsert | .leapDelete => if e.leapExecuted then .onTime else .overtaken
  | .offsetChange | .interruption | .advisory => .onTime

/-- Effect, by the entry's kind (R68 to R70). -/
def Entry.effected (now : Nat) (e : Entry) : Option Entry :=
  if e.state.inRing = true ∧ e.instant = now then
    if e.kind = .interruption then some { e with state := .inEffect, locked := true } else e.finished e.effectOutcome
  else some e

/-- Outage end (R71). -/
def Entry.outageEnded (now : Nat) (e : Entry) : Option Entry :=
  if e.state = .inEffect ∧ e.outageEnd = now then e.finished (if e.late then .overtaken else .onTime) else some e

/-- The four moves of one entry at a minute boundary; an entry that is gone makes no further move. -/
def Entry.passed (now : Nat) (e : Entry) : Option Entry :=
  (((e.opened now).committing now).effected now).bind (Entry.outageEnded now)

theorem Entry.finished_carries {e x : Entry} {o : EntryOutcome} (hs : e.state ≠ .scheduled) (h : x ∈ e.finished o) : e.Carries x := by
  unfold Entry.finished at h
  split at h
  · cases h
  · cases h
    exact ⟨rfl, rfl, rfl, rfl, id, fun ⟨hlock, _, _⟩ => ⟨fun hl => absurd (hlock hl) hs, by simp, by simp⟩⟩

theorem Entry.opened_carries (now : Nat) (e : Entry) : e.Carries (e.opened now) := by
  unfold Entry.opened
  split
  · next hopen =>
    obtain ⟨hs, -⟩ := hopen
    refine ⟨rfl, rfl, rfl, rfl, fun _ => rfl, fun ⟨_, hout, _⟩ => ?_⟩
    have hnone : e.outcome = none := by simpa [hs] using hout
    refine ⟨by simp, ?_, ?_⟩
    · split <;> simp [hnone]
    · split <;> simp
  · exact .refl e

theorem Entry.committing_carries (now : Nat) (e : Entry) : e.Carries (e.committing now) := by
  unfold Entry.committing
  split
  · next hcommit =>
    obtain ⟨hs, -⟩ := hcommit
    refine ⟨rfl, rfl, rfl, rfl, id, fun ⟨hlock, hout, _⟩ => ⟨?_, ?_, by simp⟩⟩
    · intro hl; simpa [hs] using hlock hl
    · simpa [hs] using hout
  · exact .refl e

theorem EntryState.ne_scheduled_of_inRing {x : EntryState} (h : x.inRing = true) : x ≠ .scheduled := by
  rintro rfl; cases h

theorem EntryState.ne_done_of_inRing {x : EntryState} (h : x.inRing = true) : x ≠ .done := by
  rintro rfl; cases h

theorem Entry.effected_carries {now : Nat} {e x : Entry} (h : x ∈ e.effected now) : e.Carries x := by
  unfold Entry.effected at h
  split at h
  · next heff =>
    obtain ⟨hr, -⟩ := heff
    split at h
    · next hk =>
      cases h
      refine ⟨rfl, rfl, rfl, rfl, fun _ => rfl, fun ⟨_, hout, _⟩ => ⟨by simp, ?_, fun _ => hk⟩⟩
      simpa [EntryState.ne_done_of_inRing hr] using hout
    · exact Entry.finished_carries (EntryState.ne_scheduled_of_inRing hr) h
  · cases h; exact .refl e

theorem Entry.outageEnded_carries {now : Nat} {e x : Entry} (h : x ∈ e.outageEnded now) : e.Carries x := by
  unfold Entry.outageEnded at h
  split at h
  · next hend => exact Entry.finished_carries (by simp [hend.1]) h
  · cases h; exact .refl e

theorem Entry.passed_carries {now : Nat} {e x : Entry} (h : x ∈ e.passed now) : e.Carries x := by
  obtain ⟨y, hy, hx⟩ := Option.mem_bind_iff.mp h
  exact (((Entry.opened_carries now e).trans (Entry.committing_carries now _)).trans (Entry.effected_carries hy)).trans
    (Entry.outageEnded_carries hx)

/-! ### The discontinuity procedure, entry by entry (R72) -/

/-- The state its times give it (R75). -/
def Entry.recomputed (now : UtcSecond) (e : Entry) : Entry :=
  { e with
    state := e.stateAt now.minute
    locked := e.locked || (e.stateAt now.minute).inRing
    leapExecuted := e.leapExecuted && now.second == 60 && now.minute + 1 == e.instant }

/-- Taken into effect late (R73). -/
def Entry.takenLate (now : Nat) (e : Entry) : Option Entry :=
  if e.kind = .interruption ∧ ¬e.outageEnd ≤ now then some { e with locked := true, state := .inEffect, late := true }
  else Entry.finished .overtaken { e with locked := true }

/-- What the procedure makes of an entry at the station second `now`; `loss` is the second at loss in a warm start's procedure (R72 to R76). -/
def Entry.replaced (loss : Option UtcSecond) (now : UtcSecond) (e : Entry) : Option Entry :=
  match e.state with
  | .done | .withdrawn => some e
  | .inEffect =>
    if e.outageEnd ≤ now.minute then e.finished .overtaken
    else if e.instant ≤ now.minute then some e
    else some (Entry.recomputed now { e with late := false })
  | .scheduled | .announcing | .committed =>
    if loss.elim false (fun l => e.leapWithin l now) = true ∨ e.instant ≤ now.minute then e.takenLate now.minute
    else some (e.recomputed now)

theorem Entry.stateAt_ne_done (e : Entry) (now : Nat) : e.stateAt now ≠ .done := by
  unfold Entry.stateAt; split
  · simp
  · split <;> simp

theorem Entry.stateAt_ne_inEffect (e : Entry) (now : Nat) : e.stateAt now ≠ .inEffect := by
  unfold Entry.stateAt; split
  · simp
  · split <;> simp

theorem Entry.stateAt_out {e : Entry} {now : Nat} (h : (e.stateAt now).inRing = false) : e.stateAt now = .scheduled := by
  unfold Entry.stateAt at *
  split at h
  · cases h
  · split at h
    · cases h
    · next hc ha => rw [if_neg hc, if_neg ha]

theorem Entry.recomputed_carries {e : Entry} (now : UtcSecond) (hd : e.state ≠ .done) : e.Carries (e.recomputed now) := by
  refine ⟨rfl, rfl, rfl, rfl, fun hl => by simp [Entry.recomputed, hl], fun ⟨_, hout, _⟩ => ⟨?_, ?_, ?_⟩⟩
  · intro hl
    obtain ⟨-, hr⟩ := Bool.or_eq_false_iff.mp hl
    exact Entry.stateAt_out hr
  · simpa [Entry.recomputed, hd, e.stateAt_ne_done now.minute] using hout
  · exact fun hs => absurd hs (e.stateAt_ne_inEffect now.minute)

theorem Entry.takenLate_carries {now : Nat} {e x : Entry} (hd : e.state ≠ .done) (h : x ∈ e.takenLate now) : e.Carries x := by
  unfold Entry.takenLate at h
  split at h
  · next hlate =>
    obtain ⟨hk, -⟩ := hlate
    cases h
    exact ⟨rfl, rfl, rfl, rfl, fun _ => rfl, fun ⟨_, hout, _⟩ => ⟨by simp, by simpa [hd] using hout, fun _ => hk⟩⟩
  · unfold Entry.finished at h
    split at h
    · cases h
    · cases h
      exact ⟨rfl, rfl, rfl, rfl, fun _ => rfl, fun _ => ⟨by simp, by simp, by simp⟩⟩

theorem Entry.replaced_carries {loss : Option UtcSecond} {now : UtcSecond} {e x : Entry} (h : x ∈ e.replaced loss now) : e.Carries x := by
  unfold Entry.replaced at h
  split at h
  · cases h; exact .refl e
  · cases h; exact .refl e
  · next hs =>
    split at h
    · exact Entry.finished_carries (by simp [hs]) h
    · split at h
      · cases h; exact .refl e
      · cases h
        have hlate : e.Carries { e with late := false } := ⟨rfl, rfl, rfl, rfl, id, id⟩
        exact hlate.trans (Entry.recomputed_carries now (by simp [hs]))
  all_goals
    next hs =>
      split at h
      · exact Entry.takenLate_carries (by simp [hs]) h
      · cases h; exact Entry.recomputed_carries now (by simp [hs])

/-! ### The moves as replacements in a sound calendar -/

section
variable {s : State} {e : Entry}

theorem openEntry_cal (h : s.cal.sound) (he : e ∈ s.cal.entries) (now : Nat) :
    (s.openEntry now e).cal = s.cal.put e.ident (some (e.opened now)) := by
  unfold State.openEntry Entry.opened
  split
  · exact modifyEntry_joinRing_cal (f := fun e => { e with state := _, locked := true }) h he (by dsimp only; split <;> rfl)
  · exact (h.put_self he).symm

theorem commitEntry_cal (h : s.cal.sound) (he : e ∈ s.cal.entries) (now : Nat) :
    (s.commitEntry now e).cal = s.cal.put e.ident (some (e.committing now)) := by
  unfold State.commitEntry Entry.committing
  split
  · next hc => exact modifyEntry_cal_put (f := fun e => { e with state := .committed }) h he (by simp [hc.1, EntryState.inRing])
  · exact (h.put_self he).symm

theorem effectEntry_cal (h : s.cal.sound) (he : e ∈ s.cal.entries) (now : Nat) :
    (s.effectEntry now e).cal = s.cal.put e.ident (e.effected now) := by
  unfold State.effectEntry Entry.effected Entry.effectOutcome
  split
  · cases hk : e.kind with
    | offsetChange =>
      have hcal := applyPayload_cal e.payload s
      have := finishEntry_cal (s := s.applyPayload e.payload) (e := e) (by rwa [hcal]) (by rwa [hcal]) .onTime
      simpa [hcal] using this
    | advisory => simpa using finishEntry_cal h he .onTime
    | leapInsert => cases hx : e.leapExecuted <;> simpa using finishEntry_cal h he _
    | leapDelete => cases hx : e.leapExecuted <;> simpa using finishEntry_cal h he _
    | interruption =>
      simpa using leaveRing_modifyEntry_cal (f := fun e => { e with state := .inEffect, locked := true }) h he rfl
  · exact (h.put_self he).symm

theorem endOutage_cal (h : s.cal.sound) (he : e ∈ s.cal.entries) (now : Nat) :
    (s.endOutage now e).cal = s.cal.put e.ident (e.outageEnded now) := by
  unfold State.endOutage Entry.outageEnded
  split
  · simpa using finishEntry_cal h he _
  · exact (h.put_self he).symm

/-- A move that replaces the entry it is made on does so for the entry of its ident, as the moves before left it; an entry that is gone makes none. -/
theorem onEntry_cal_put {c : Calendar} (h : c.sound) (he : e ∈ c.entries) {r : Option Entry}
    (hr : ∀ x ∈ r, x.ident = e.ident ∧ x.instant = e.instant) (hs : s.cal = c.put e.ident r) {move : Entry → State → State}
    {g : Entry → Option Entry}
    (hmove : ∀ {s : State} {e : Entry}, s.cal.sound → e ∈ s.cal.entries → (move e s).cal = s.cal.put e.ident (g e))
    (hring : ∀ x, (∃ y ∈ g x, y.state.inRing = true) → x.state.inRing = true) :
    (s.onEntry e.ident move).cal = c.put e.ident (r.bind g) := by
  have hsound : s.cal.sound := hs ▸ h.put he hr
  unfold State.onEntry
  cases r with
  | none =>
    have hnone : s.findEntry e.ident = none := findEntry_eq_none_iff.mpr fun x hx => by
      rw [hs, Calendar.mem_put] at hx
      rcases hx with ⟨-, hi⟩ | ⟨hx, -⟩
      · exact hi
      · cases hx
    rw [hnone]
    exact hs
  | some x =>
    have hi : x.ident = e.ident := (hr x rfl).1
    have hx : x ∈ s.cal.entries := by
      rw [hs, Calendar.mem_put]
      exact .inr ⟨rfl, e, he, rfl⟩
    have hfind : s.findEntry e.ident = some x := hi ▸ findEntry_ident hsound.holds.idents hx
    rw [hfind]
    dsimp only [Option.bind_some]
    rw [hmove hsound hx, hs, hi, Calendar.put_put hi (hring x)]

theorem Entry.finished_out {o : EntryOutcome} {e y : Entry} (h : y ∈ e.finished o) : y.state = .done := by
  unfold Entry.finished at h
  split at h <;> cases h
  rfl

theorem Entry.effected_inRing {now : Nat} {x : Entry} (h : ∃ y ∈ x.effected now, y.state.inRing = true) : x.state.inRing = true := by
  obtain ⟨y, hy, hr⟩ := h
  unfold Entry.effected at hy
  split at hy
  · next heff => exact heff.1
  · cases hy; exact hr

theorem Entry.outageEnded_inRing {now : Nat} {x : Entry} (h : ∃ y ∈ x.outageEnded now, y.state.inRing = true) :
    x.state.inRing = true := by
  obtain ⟨y, hy, hr⟩ := h
  unfold Entry.outageEnded at hy
  split at hy
  · rw [Entry.finished_out hy] at hr; cases hr
  · cases hy; exact hr

theorem Entry.committing_inRing {now : Nat} {x : Entry} (h : (x.committing now).state.inRing = true) : x.state.inRing = true := by
  unfold Entry.committing at h
  split at h
  · next hc => rw [hc.1]; rfl
  · exact h

/-- The pass of one entry replaces it by what its moves make of it (R64). -/
theorem passEntry_cal (h : s.cal.sound) (he : e ∈ s.cal.entries) (now : Nat) :
    (s.passEntry now e.ident).cal = s.cal.put e.ident (e.passed now) := by
  have hopen : (s.onEntry e.ident (State.openEntry now)).cal = s.cal.put e.ident (some (e.opened now)) := by
    unfold State.onEntry
    rw [findEntry_ident h.holds.idents he]
    exact openEntry_cal h he now
  have kopen := Entry.opened_carries now e
  have kcommit := kopen.trans (Entry.committing_carries now _)
  have hcommit := onEntry_cal_put h he (r := some (e.opened now)) (fun x hx => by cases hx; exact ⟨kopen.ident, kopen.instant⟩) hopen
    (g := fun x => some (x.committing now)) (fun h he => commitEntry_cal h he now)
    (by rintro x ⟨y, hy, hr⟩; cases hy; exact Entry.committing_inRing hr)
  have heffect := onEntry_cal_put h he (fun x hx => by cases hx; exact ⟨kcommit.ident, kcommit.instant⟩) hcommit
    (fun h he => effectEntry_cal h he now) (fun x hx => Entry.effected_inRing hx)
  exact onEntry_cal_put h he (fun x hx => by
      have k := kcommit.trans (Entry.effected_carries hx)
      exact ⟨k.ident, k.instant⟩) heffect
    (fun h he => endOutage_cal h he now) (fun x hx => Entry.outageEnded_inRing hx)

theorem recomputeEntry_cal (h : s.cal.sound) (he : e ∈ s.cal.entries) (now : UtcSecond) :
    (s.recomputeEntry now e).cal = s.cal.put e.ident (some (e.recomputed now)) := by
  let f := fun x : Entry => { x with
    state := e.stateAt now.minute
    locked := x.locked || (e.stateAt now.minute).inRing
    leapExecuted := x.leapExecuted && now.second == 60 && now.minute + 1 == x.instant }
  unfold State.recomputeEntry
  dsimp only
  split
  · next hin => exact modifyEntry_joinRing_cal (f := f) h he hin
  · next hout => exact modifyEntry_leaveRing_cal (f := f) h he (by simpa using hout)

theorem mem_modifyEntry {f : Entry → Entry} (he : e ∈ s.cal.entries) : f e ∈ (s.modifyEntry e.ident f).cal.entries :=
  List.mem_map.mpr ⟨e, he, if_pos rfl⟩

/-- A change of marks alone keeps the calendar sound. -/
theorem modifyEntry_sound {f : Entry → Entry} (h : s.cal.sound) (he : e ∈ s.cal.entries) (hid : (f e).ident = e.ident)
    (hin : (f e).instant = e.instant) (hstate : (f e).state = e.state) : (s.modifyEntry e.ident f).cal.sound := by
  rw [modifyEntry_cal_put h he (by rw [hstate])]
  refine h.put he fun x hx => ?_
  cases hx; exact ⟨hid, hin⟩

theorem takeLate_cal (h : s.cal.sound) (he : e ∈ s.cal.entries) (now : Nat) :
    (s.takeLate now e).cal = s.cal.put e.ident (e.takenLate now) := by
  let lock := fun e : Entry => { e with locked := true }
  have hlock : (s.modifyEntry e.ident lock).cal = s.cal.put e.ident (some (lock e)) := modifyEntry_cal_put h he rfl
  have hmem : lock e ∈ (s.modifyEntry e.ident lock).cal.entries := mem_modifyEntry he
  have hsound : (s.modifyEntry e.ident lock).cal.sound := modifyEntry_sound h he rfl rfl rfl
  have hfinish : ∀ t : State, t.cal = (s.modifyEntry e.ident lock).cal →
      (t.finishEntry e .overtaken).cal = s.cal.put e.ident (Entry.finished .overtaken (lock e)) := by
    intro t ht
    have hput := finishEntry_cal (s := t) (e := lock e) (ht ▸ hsound) (ht ▸ hmem) .overtaken
    rw [ht, hlock] at hput
    refine Eq.trans hput (Calendar.put_put rfl ?_)
    rintro ⟨y, hy, hr⟩
    rw [Entry.finished_out hy] at hr; cases hr
  have happly : ∀ p, ((s.modifyEntry e.ident lock).applyPayload p).cal = (s.modifyEntry e.ident lock).cal := fun p => applyPayload_cal p _
  unfold State.takeLate Entry.takenLate
  rw [State.raise_cal]
  cases hk : e.kind with
  | interruption =>
    by_cases hend : e.outageEnd ≤ now
    · simpa [hend] using hfinish _ rfl
    · simp only [hend, if_false, not_false_eq_true, and_self, if_true]
      refine (leaveRing_modifyEntry_cal (s := s.modifyEntry e.ident lock) (e := lock e)
        (f := fun e => { e with state := .inEffect, late := true }) hsound hmem rfl).trans ?_
      rw [hlock]
      exact Calendar.put_put rfl (by rintro ⟨y, hy, hr⟩; cases hy; cases hr)
  | offsetChange => simpa using hfinish _ (happly _)
  | leapInsert => simpa using hfinish _ (happly _)
  | leapDelete => simpa using hfinish _ (happly _)
  | advisory => simpa using hfinish _ (happly _)

theorem replaceInEffect_cal (h : s.cal.sound) (he : e ∈ s.cal.entries) (hs : e.state = .inEffect) (now : UtcSecond) :
    (s.replaceInEffect now e).cal = s.cal.put e.ident (e.replaced none now) := by
  unfold State.replaceInEffect Entry.replaced
  simp only [hs]
  split
  · simpa using finishEntry_cal h he .overtaken
  · split
    · exact (h.put_self he).symm
    · let clear := fun e : Entry => { e with late := false }
      have hclear : (s.modifyEntry e.ident clear).cal = s.cal.put e.ident (some (clear e)) := modifyEntry_cal_put h he rfl
      have hsound : (s.modifyEntry e.ident clear).cal.sound := modifyEntry_sound h he rfl rfl rfl
      rw [release_cal]
      refine (recomputeEntry_cal (s := s.modifyEntry e.ident clear) (e := clear e) hsound (mem_modifyEntry he) now).trans ?_
      rw [hclear]
      simpa only [clear, hs] using h.put_put (x := clear e) he rfl rfl (some (Entry.recomputed now (clear e)))

/-- The procedure replaces an entry by what its times, its kind and its state make of it, and keeps the rest of the calendar (R72). -/
theorem procedureEntry_cal (h : s.cal.sound) (he : e ∈ s.cal.entries) {now : UtcSecond} (hnow : s.tb.time = some now) (loss : Option UtcSecond) :
    (s.procedureEntry loss e.ident).cal = s.cal.put e.ident (e.replaced loss now) := by
  unfold State.procedureEntry
  rw [hnow, findEntry_ident h.holds.idents he]
  cases hs : e.state with
  | done => simpa [Entry.replaced, hs] using (h.put_self he).symm
  | withdrawn => simpa [Entry.replaced, hs] using (h.put_self he).symm
  | inEffect => simpa [Entry.replaced, hs] using replaceInEffect_cal h he hs now
  | _ =>
    have hmoved := takeLate_cal (s := s.moveTime (e.corrected now)) h he now.minute
    have hlate := takeLate_cal h he now.minute
    have hback := recomputeEntry_cal h he now
    simp only [Entry.replaced, hs]
    by_cases hw : loss.elim false (fun l => e.leapWithin l now) = true
    · simpa [hw] using hmoved
    · by_cases hi : e.instant ≤ now.minute
      · simpa [hw, hi] using hlate
      · simpa [hw, hi] using hback

end

end Sys2Proof.Machine
end

section
/-! What the moves of a channel make of it: one equation for each operation, which gives the channel it is made on and leaves the others. -/

namespace Sys2Proof.Machine

/-! ### Changes of state and the abort of a measurement -/

/-- The channel after a change of state; staying in a state is no change (R143). -/
def Channel.moved (st : ChannelState) (c : Channel) : Channel := if c.state = st then c else c.enter st

theorem Channel.moved_self {st : ChannelState} {c : Channel} (h : c.state = st) : c.moved st = c := if_pos h

theorem Channel.moved_enter {st : ChannelState} {c : Channel} (h : c.state ≠ st) : c.moved st = c.enter st := if_neg h

@[simp] theorem Channel.moved_state (st : ChannelState) (c : Channel) : (c.moved st).state = st := by
  unfold Channel.moved
  split
  · assumption
  · rfl

/-- A change of state keeps all but the keying and the fields of HELD and RESUMING. -/
theorem Channel.moved_frame (st : ChannelState) (c : Channel) : c.moved st =
    { c with
      state := st, key := (c.moved st).key, keyPlan := (c.moved st).keyPlan, heldBy := (c.moved st).heldBy
      heldSince := (c.moved st).heldSince, resumeDeferred := (c.moved st).resumeDeferred, resumeStart := (c.moved st).resumeStart } := by
  unfold Channel.moved
  split
  · next h => rw [← h]
  · rfl

@[simp] theorem Channel.moved_history (st : ChannelState) (c : Channel) : (c.moved st).history = c.history := by rw [Channel.moved_frame]
@[simp] theorem Channel.moved_cfg (st : ChannelState) (c : Channel) : (c.moved st).cfg = c.cfg := by rw [Channel.moved_frame]
@[simp] theorem Channel.moved_arbiter (st : ChannelState) (c : Channel) : (c.moved st).arbiter = c.arbiter := by rw [Channel.moved_frame]

/-- The channel as the abort of its measurement leaves it: in CARRIER the test pulse is cut short (R175). -/
def Channel.cutShort (c : Channel) : Channel := if c.state = .carrier then c.releaseKey else c

/-- A channel that has just entered a state has no test pulse to cut short. -/
theorem Channel.cutShort_enter (st : ChannelState) (c : Channel) : (c.enter st).cutShort = c.enter st := by
  unfold Channel.cutShort; split <;> rfl

@[simp] theorem State.chan_closeMeter (w : Working) (o : MeterOutcome) (a : Bool) (m : Fin 4) (s : State) :
    (s.closeMeter w o a).chan m = s.chan m := rfl

theorem State.measures_iff {s : State} {n : Fin 4} : s.measures n = true ↔ ∃ w ∈ s.meter.working, w.channel = n := by
  unfold State.measures
  cases s.meter.working <;> simp

theorem abortMeasurement_chan (m : Fin 4) (s : State) :
    s.abortMeasurement.chan m = if s.measures m then (s.chan m).cutShort else s.chan m := by
  unfold State.abortMeasurement
  split
  · next hw => simp [State.measures, hw]
  · next w hw =>
    by_cases hm : m = w.channel
    · simp [State.measures, hw, hm, Channel.cutShort]
    · simp [State.measures, hw, hm, Ne.symm hm]

theorem abortMeasurementOn_chan (n m : Fin 4) (s : State) :
    (s.abortMeasurementOn n).chan m = if m = n ∧ s.measures n = true then (s.chan m).cutShort else s.chan m := by
  unfold State.abortMeasurementOn
  split
  · next hw => simp [State.measures, hw]
  · next w hw =>
    split
    · next hn =>
      rw [abortMeasurement_chan]
      by_cases hm : m = n
      · subst hm; simp
      · simp [State.measures, hw, hn, hm, Ne.symm hm]
    · next hn => simp [State.measures, hw, hn]

theorem moveChannel_chan (n m : Fin 4) (st : ChannelState) (s : State) :
    (s.moveChannel n st).chan m = if m = n then (s.chan n).moved st else s.chan m := by
  unfold State.moveChannel
  split
  · next h =>
    split
    · next hm => rw [hm, Channel.moved_self h]
    · rfl
  · next h =>
    rw [abortMeasurementOn_chan, State.chan_modifyChan, Channel.moved_enter h]
    by_cases hm : m = n
    · simp [hm, Channel.cutShort_enter]
    · simp [hm]

@[simp] theorem moveChannel_chan_same (n : Fin 4) (st : ChannelState) (s : State) : (s.moveChannel n st).chan n = (s.chan n).moved st := by
  rw [moveChannel_chan, if_pos rfl]

theorem moveByEvent_chan (n m : Fin 4) (st : ChannelState) (s : State) :
    (s.moveByEvent n st).chan m = if m = n then (s.chan n).moved st else s.chan m := by
  unfold State.moveByEvent
  split
  · next h =>
    split
    · next hm => rw [hm, Channel.moved_self h]
    · rfl
  · rw [State.chan_raise, moveChannel_chan]

/-! ### Fields that the moves of channels leave -/

@[simp] theorem moveChannel_ret (n : Fin 4) (st : ChannelState) (s : State) : (s.moveChannel n st).ret = s.ret := by rw [moveChannel_frame]
@[simp] theorem moveByEvent_ret (n : Fin 4) (st : ChannelState) (s : State) : (s.moveByEvent n st).ret = s.ret := by rw [moveByEvent_frame]

/-! ### Resuming, releases and deferred resumes -/

/-- The channel that becomes RESUMING at `start`, with the run second `now` in its history (R152, R159). -/
def Channel.resuming (start : Moment) (now : RunSec) (c : Channel) : Channel :=
  { c.moved .resuming with resumeStart := some start, history := c.history ++ [now] }

theorem startResuming_chan (n m : Fin 4) (s : State) :
    (s.startResuming n).chan m = if m = n then (s.chan n).resuming (s.resumeMoment n) s.ret.runSeconds else s.chan m := by
  simp only [State.startResuming, State.carrierOnEvent, State.chan_modifyChan, if_pos, moveChannel_chan, State.modifyChan_ret, moveChannel_ret]
  by_cases hm : m = n <;> simp [hm, Channel.resuming]

/-- The channel as a release naming `ident` leaves it, where it would resume at `start` (R159, R161). -/
def Channel.released (ident : Nat) (start : Moment) (now : RunSec) (c : Channel) : Channel :=
  if c.state = .held .calendar ∧ c.heldBy = some ident then
    if c.spent then { c with heldBy := none, resumeDeferred := true } else c.resuming start now
  else if c.claim = some ident then { c with claim := none, claimCancelled := true }
  else c

theorem releaseChannel_chan (i : Nat) (n m : Fin 4) (s : State) :
    (s.releaseChannel i n).chan m = if m = n then (s.chan n).released i (s.resumeMoment n) s.ret.runSeconds else s.chan m := by
  unfold State.releaseChannel Channel.released
  dsimp only
  split
  · split
    · exact State.chan_setChan _ _ _ _
    · rw [State.chan_raise, startResuming_chan]
  · split
    · exact State.chan_setChan _ _ _ _
    · split
      · next hm => rw [hm]
      · rfl

/-- The channel after the deferred-resume test of a minute boundary (R160). -/
def Channel.testedDeferred (start : Moment) (now : RunSec) (c : Channel) : Channel :=
  if c.state = .held .calendar ∧ c.resumeDeferred = true ∧ c.spent = false then c.resuming start now else c

theorem testDeferred_chan (n m : Fin 4) (s : State) :
    (s.testDeferred n).chan m = if m = n then (s.chan n).testedDeferred (s.resumeMoment n) s.ret.runSeconds else s.chan m := by
  unfold State.testDeferred Channel.testedDeferred
  dsimp only
  split
  · rw [State.chan_raise, startResuming_chan]
  · split
    · next hm => rw [hm]
    · rfl

/-- The resume start a channel takes depends on station time and the run seconds alone. -/
theorem resumeMoment_congr {s t : State} (htb : t.tb = s.tb) (hret : t.ret = s.ret) (n : Fin 4) : t.resumeMoment n = s.resumeMoment n := by
  simp only [State.resumeMoment, State.moment, State.phase, State.perMicro, htb, hret]

/-- An operation of each channel in turn that changes no other channel is that operation of every channel, where each finds what it reads as it was. -/
theorem eachChannel_chan {f : Fin 4 → State → State} {g : Fin 4 → Channel → Channel} (P : State → Prop)
    (hf : ∀ n s, P s → P (f n s) ∧ ∀ m, (f n s).chan m = if m = n then g n (s.chan n) else s.chan m) {s : State} (hs : P s) (m : Fin 4) :
    (s.eachChannel f).chan m = g m (s.chan m) := by
  obtain ⟨h0, k0⟩ := hf 0 s hs
  obtain ⟨h1, k1⟩ := hf 1 _ h0
  obtain ⟨h2, k2⟩ := hf 2 _ h1
  obtain ⟨-, k3⟩ := hf 3 _ h2
  unfold State.eachChannel
  rw [k3]
  match m with
  | 0 => simp [k2, k1, k0]
  | 1 => simp [k2, k1, k0]
  | 2 => simp [k2, k1, k0]
  | 3 => simp [k2, k1, k0]

theorem release_chan (i : Nat) (m : Fin 4) (s : State) :
    (s.release i).chan m = (s.chan m).released i (s.resumeMoment m) s.ret.runSeconds := by
  refine eachChannel_chan (g := fun n c => c.released i (s.resumeMoment n) s.ret.runSeconds)
    (fun t => t.tb = s.tb ∧ t.ret = s.ret) ?_ ⟨rfl, rfl⟩ m
  rintro n t ⟨htb, hret⟩
  refine ⟨?_, fun m => ?_⟩
  · rw [releaseChannel_frame]; exact ⟨htb, hret⟩
  · rw [releaseChannel_chan, resumeMoment_congr htb hret, hret]

theorem testDeferred_each_chan (m : Fin 4) (s : State) :
    (s.eachChannel State.testDeferred).chan m = (s.chan m).testedDeferred (s.resumeMoment m) s.ret.runSeconds := by
  refine eachChannel_chan (g := fun n c => c.testedDeferred (s.resumeMoment n) s.ret.runSeconds)
    (fun t => t.tb = s.tb ∧ t.ret = s.ret) ?_ ⟨rfl, rfl⟩ m
  rintro n t ⟨htb, hret⟩
  refine ⟨?_, fun m => ?_⟩
  · rw [testDeferred_frame]; exact ⟨htb, hret⟩
  · rw [testDeferred_chan, resumeMoment_congr htb hret, hret]

/-! ### The channel boundary -/

/-- What a channel boundary at the run second `now` makes of the channel `c`, from what it `held` before (R148, R161). -/
def Channel.boundaryMoved (now : RunSec) (held c : Channel) : Channel :=
  match held.frameToKey with
  | some f => { c.moved .onAir with onAir := some f }
  | none =>
    if held.quietDecided then c.moved .quiet
    else if held.holdPending then { c.moved (.held .host) with heldSince := some now }
    else
      match held.claim with
      | some id => { c.moved (.held .calendar) with heldBy := some id, heldSince := some now }
      | none => if held.claimCancelled || held.state == .onAir then c.moved .cued else c

theorem boundaryMove_chan (n m : Fin 4) (c : Channel) (s : State) :
    (s.boundaryMove n c).chan m = if m = n then c.boundaryMoved s.ret.runSeconds (s.chan n) else s.chan m := by
  have hwrite : ∀ (st : ChannelState) (f : Channel → Channel), ((s.moveByEvent n st).modifyChan n f).chan m =
      if m = n then f ((s.chan n).moved st) else s.chan m := by
    intro st f
    rw [State.chan_modifyChan, moveByEvent_chan, moveByEvent_chan, if_pos rfl]
    by_cases hm : m = n <;> simp [hm]
  have hself : s.chan m = if m = n then s.chan n else s.chan m := by
    split
    · next hm => rw [hm]
    · rfl
  unfold State.boundaryMove Channel.boundaryMoved
  cases c.frameToKey with
  | some f => exact hwrite .onAir fun c => { c with onAir := some f }
  | none =>
    cases c.quietDecided with
    | true => exact moveByEvent_chan _ _ _ _
    | false =>
      cases c.holdPending with
      | true => exact hwrite (.held .host) fun c => { c with heldSince := some s.ret.runSeconds }
      | false =>
        cases c.claim with
        | some id => exact hwrite (.held .calendar) fun c => { c with heldBy := some id, heldSince := some s.ret.runSeconds }
        | none =>
          cases c.claimCancelled || c.state == .onAir with
          | true => exact moveByEvent_chan _ _ _ _
          | false => exact hself

/-- The channel after its boundary at the run second `now`: the decision carried out, the ended frame deleted, the arbiter emptied unless ON AIR (R113, R134, R148). -/
def Channel.crossed (now : RunSec) (c : Channel) : Channel :=
  let d := c.boundaryMoved now { c.undecided with onAir := none }
  if d.state = .onAir then d else d.emptyArbiter

theorem channelBoundary_chan (n m : Fin 4) (s : State) :
    (s.channelBoundary n).chan m = if m = n then (s.chan n).crossed s.ret.runSeconds else s.chan m := by
  have hmove : ∀ m, ((s.modifyChan n fun c => { c.undecided with onAir := none }).boundaryMove n (s.chan n)).chan m =
      if m = n then (s.chan n).boundaryMoved s.ret.runSeconds { (s.chan n).undecided with onAir := none } else s.chan m := by
    intro m
    rw [boundaryMove_chan, State.chan_modifyChan, State.chan_modifyChan, if_pos rfl]
    by_cases hm : m = n <;> simp [hm]
  unfold State.channelBoundary Channel.crossed
  dsimp only
  split
  · next hair => rw [hmove, if_pos rfl] at hair; rw [hmove, if_pos hair]
  · next hair => rw [hmove, if_pos rfl] at hair; simp only [State.chan_modifyChan, hmove, if_pos, if_neg hair]; split <;> rfl

end Sys2Proof.Machine
end

section
/-! What a channel can become in one command: the changes the blocks make of it, one constructor for each, and every shared operation as a chain of them. -/

namespace Sys2Proof.Machine

/-! ### The changes of a channel -/

/-- One change of a channel. The guards are what the operations check before they make it. -/
inductive Channel.Becomes (c : Channel) : Channel → Prop
  /-- What is decided and staged for the minutes, the input lines, and the label of the next channel second. -/
  | plain (d : Channel) (h : d = { c with
      holdPending := d.holdPending, claim := d.claim, claimCancelled := d.claimCancelled, quietDecided := d.quietDecided, staged := d.staged
      onAir := d.onAir, fault := d.fault, faultLine := d.faultLine, monitorHigh := d.monitorHigh, nextSecond := d.nextSecond }) : c.Becomes d
  /-- The arbiter's record (R103). -/
  | arbiter (a : Arbiter) (h : c.arbiter.stack.length ≤ 4 → a.stack.length ≤ 4) : c.Becomes { c with arbiter := a }
  /-- A state other than HELD and RESUMING is entered (R140, R142). -/
  | enter (st : ChannelState) (hheld : ∀ r, st ≠ .held r) (hresuming : st ≠ .resuming) : c.Becomes (c.enter st)
  /-- HELD is entered (R148, R151). -/
  | hold (r : HoldReason) (entry : Option Nat) (now : RunSec) (h : entry.isSome = true → r = .calendar) :
    c.Becomes { c.enter (.held r) with heldBy := entry, heldSince := some now }
  /-- HELD is held anew. -/
  | holdAgain (r : HoldReason) (entry : Option Nat) (now : RunSec) (hs : c.state = .held r)
    (h : entry.isSome = true → entry = c.heldBy ∨ r = .calendar) : c.Becomes { c with heldBy := entry, heldSince := some now }
  /-- RESUMING is entered within the budget (R152, R159). -/
  | resume (start : Moment) (now : RunSec) (h : c.history.length < 4) :
    c.Becomes { c.enter .resuming with resumeStart := some start, history := c.history ++ [now] }
  /-- A resume is deferred (R159). -/
  | defer (hs : c.state = .held .calendar) : c.Becomes { c with heldBy := none, resumeDeferred := true }
  /-- The carrier is switched on within the budget (R162). -/
  | carrierOn (now : RunSec) (h : c.history.length < 4) : c.Becomes { c with history := c.history ++ [now] }
  /-- Times leave the history (R163). -/
  | expire (young : List RunSec) (h : young.length ≤ c.history.length) : c.Becomes { c with history := young }
  /-- A configuration is written (R141). -/
  | configure (cfg : ChannelConfig) (h : cfg.legal) : c.Becomes { c with cfg := cfg, pendingAdvance := some cfg.drive }
  /-- A measured advance is put in force (R174). -/
  | advance (mean : Nat) (h : mean ≤ 50000) :
    c.Becomes { c with cfg := { c.cfg with drive := mean }, inForce := mean, pendingAdvance := none }
  /-- A measured advance is left pending (R174). -/
  | advanceLater (mean : Nat) (h : mean ≤ 50000) : c.Becomes { c with cfg := { c.cfg with drive := mean }, pendingAdvance := some mean }
  /-- A pending advance is taken (R136). -/
  | advanceTaken : c.Becomes { c with inForce := c.pendingAdvance.getD c.inForce, pendingAdvance := none }
  /-- A second is keyed, or nothing is (R119, R142, R171). -/
  | key (k : Bool) (plan : List KeyChange) (h : k = true ∨ plan ≠ [] → c.state = .onAir ∨ c.state = .carrier) :
    c.Becomes { c with key := k, keyPlan := plan }
  /-- The next timed change falls (R119). -/
  | keyChange (x : KeyChange) (rest : List KeyChange) (h : c.keyPlan = x :: rest) : c.Becomes { c with key := x.level, keyPlan := rest }
  /-- The working state is lost or set anew (R139, R167, R168). -/
  | start (cfg : ChannelConfig) (history : List RunSec) (faultHigh monitorHigh : Bool) (hcfg : c.cfg.legal → cfg.legal)
    (hhistory : history.length ≤ c.history.length) : c.Becomes (.start cfg history faultHigh monitorHigh)

/-- What a channel can become by a chain of changes. -/
abbrev Channel.Reaches (c d : Channel) : Prop := Relation.ReflTransGen Channel.Becomes c d

theorem Channel.Becomes.reaches {c d : Channel} (h : c.Becomes d) : c.Reaches d := .single h

/-! ### The operations on one channel -/

theorem Channel.undecided_reaches (c : Channel) : c.Reaches c.undecided := (Becomes.plain _ rfl).reaches

theorem Channel.releaseKey_reaches (c : Channel) : c.Reaches c.releaseKey := (Becomes.key false [] (by simp)).reaches

theorem Channel.cutShort_reaches (c : Channel) : c.Reaches c.cutShort := by
  unfold Channel.cutShort
  split
  · exact c.releaseKey_reaches
  · exact .refl

theorem Channel.emptyArbiter_reaches (c : Channel) : c.Reaches c.emptyArbiter :=
  (Becomes.arbiter c.arbiter.emptied fun _ => Nat.zero_le _).reaches

theorem Channel.moved_reaches {st : ChannelState} (hheld : ∀ r, st ≠ .held r) (hresuming : st ≠ .resuming) (c : Channel) :
    c.Reaches (c.moved st) := by
  unfold Channel.moved
  split
  · exact .refl
  · exact (Becomes.enter st hheld hresuming).reaches

theorem Channel.held_reaches (r : HoldReason) (entry : Option Nat) (now : RunSec) (h : entry.isSome = true → r = .calendar) (c : Channel) :
    c.Reaches { c.moved (.held r) with heldBy := entry, heldSince := some now } := by
  unfold Channel.moved
  split
  · next hs => exact (Becomes.holdAgain r entry now hs fun hsome => .inr (h hsome)).reaches
  · exact (Becomes.hold r entry now h).reaches

theorem Channel.heldByHost_reaches (now : RunSec) (c : Channel) : c.Reaches { c.moved (.held .host) with heldSince := some now } := by
  unfold Channel.moved
  split
  · next hs => exact (Becomes.holdAgain .host c.heldBy now hs fun _ => .inl rfl).reaches
  · exact (Becomes.hold .host none now (by simp)).reaches

theorem Channel.not_spent_iff {c : Channel} : c.spent = false ↔ c.history.length < 4 := by
  simp [Channel.spent]

theorem Channel.resuming_reaches {c : Channel} (hs : c.state ≠ .resuming) (h : c.history.length < 4) (start : Moment) (now : RunSec) :
    c.Reaches (c.resuming start now) := by
  unfold Channel.resuming
  rw [Channel.moved_enter hs]
  exact (Becomes.resume start now h).reaches

theorem Channel.released_reaches (i : Nat) (start : Moment) (now : RunSec) (c : Channel) : c.Reaches (c.released i start now) := by
  unfold Channel.released
  split
  · next hc =>
    split
    · exact (Becomes.defer hc.1).reaches
    · next hspent => exact Channel.resuming_reaches (by simp [hc.1]) (Channel.not_spent_iff.mp (by simpa using hspent)) start now
  · split
    · exact (Becomes.plain _ rfl).reaches
    · exact .refl

theorem Channel.testedDeferred_reaches (start : Moment) (now : RunSec) (c : Channel) : c.Reaches (c.testedDeferred start now) := by
  unfold Channel.testedDeferred
  split
  · next hc => exact Channel.resuming_reaches (by simp [hc.1]) (Channel.not_spent_iff.mp hc.2.2) start now
  · exact .refl

theorem Channel.boundaryMoved_reaches (now : RunSec) (held c : Channel) : c.Reaches (held.boundaryMoved now c) := by
  unfold Channel.boundaryMoved
  split
  · exact (Channel.moved_reaches (by simp) (by simp) c).tail (.plain _ rfl)
  · split
    · exact Channel.moved_reaches (by simp) (by simp) c
    · split
      · exact Channel.heldByHost_reaches now c
      · split
        · exact Channel.held_reaches _ _ _ (fun _ => rfl) c
        · split
          · exact Channel.moved_reaches (by simp) (by simp) c
          · exact .refl

theorem Channel.crossed_reaches (now : RunSec) (c : Channel) : c.Reaches (c.crossed now) := by
  have hmove : c.Reaches (c.boundaryMoved now { c.undecided with onAir := none }) :=
    (c.undecided_reaches.tail (.plain { c.undecided with onAir := none } rfl)).trans (Channel.boundaryMoved_reaches _ _ _)
  unfold Channel.crossed
  dsimp only
  split
  · exact hmove
  · exact hmove.trans (Channel.emptyArbiter_reaches _)

theorem Channel.configure_reaches {cfg : ChannelConfig} (h : cfg.legal) (scope : Nat → Bool) (c : Channel) :
    c.Reaches (c.configure scope cfg) := by
  unfold Channel.configure
  split
  · exact .refl
  · refine (Becomes.configure cfg h).reaches.tail (.arbiter _ fun hstack => ?_)
    split
    · exact hstack
    · exact (Arbiter.keep_stack_length_le _ _).trans hstack

theorem Channel.applyAdvance_reaches {mean : Nat} (h : mean ≤ 50000) (c : Channel) : c.Reaches (c.applyAdvance mean) := by
  unfold Channel.applyAdvance
  split
  · exact (Becomes.advance mean h).reaches
  · exact (Becomes.advanceLater mean h).reaches

/-! ### The arbiter's pass keeps the stack within four records (R103, R108) -/

theorem pushSlot_length_le (x : Slot) (stack : List Slot) : (pushSlot x stack).length ≤ 4 := by
  simp [pushSlot]

theorem Arbiter.challenge_stack_length_le {a : Arbiter} (h : a.stack.length ≤ 4) (cands : List Candidate) (dwell : Nat) :
    (a.challenge cands dwell).stack.length ≤ 4 := by
  fun_cases Arbiter.challenge
  case case1 => exact pushSlot_length_le _ _
  case case2 => exact pushSlot_length_le _ _
  all_goals exact h

theorem Arbiter.choose_stack_length_le {a : Arbiter} (h : a.stack.length ≤ 4) (cands : List Candidate) (dwell : Nat) :
    (a.choose cands dwell).stack.length ≤ 4 := by
  fun_cases Arbiter.choose <;> simp_all <;> omega

theorem Arbiter.chosen_stack_length_le {a : Arbiter} (h : a.stack.length ≤ 4) (cands : List Candidate) (dwell : Nat) :
    (a.chosen cands dwell).stack.length ≤ 4 := by
  have hdrop : (a.drop cands).vacate.stack.length ≤ 4 :=
    (Arbiter.keep_stack_length_le (fun i => (candidateOf cands i).isSome) a).trans h
  exact Arbiter.choose_stack_length_le (Arbiter.challenge_stack_length_le hdrop _ _) _ _

end Sys2Proof.Machine
end

section
/-! What one command can do to the queue, the calendar, the channels and the references' priorities: each shared operation keeps the calendar's entries as the pass and the
procedure move them, and changes the channels by the changes a channel knows. -/

namespace Sys2Proof.Machine

/-! ### Calendars -/

/-- Whatever `d` holds is what became of an entry of `c`, and a sound calendar stays sound. -/
def Calendar.CarriesTo (c d : Calendar) : Prop :=
  c.sound → d.sound ∧ ∀ x ∈ d.entries, ∃ e ∈ c.entries, e.Carries x

theorem Calendar.CarriesTo.refl (c : Calendar) : c.CarriesTo c := fun h => ⟨h, fun x hx => ⟨x, hx, .refl x⟩⟩

theorem Calendar.CarriesTo.of_eq {c d : Calendar} (h : d = c) : c.CarriesTo d := h ▸ .refl c

theorem Calendar.CarriesTo.trans {c d f : Calendar} (h : c.CarriesTo d) (k : d.CarriesTo f) : c.CarriesTo f := by
  intro hc
  obtain ⟨hd, hentries⟩ := h hc
  obtain ⟨hf, kentries⟩ := k hd
  refine ⟨hf, fun y hy => ?_⟩
  obtain ⟨x, hx, hxy⟩ := kentries y hy
  obtain ⟨e, he, hex⟩ := hentries x hx
  exact ⟨e, he, hex.trans hxy⟩

theorem Calendar.carriesTo_put {c : Calendar} {e : Entry} (he : e ∈ c.entries) {r : Option Entry} (hr : ∀ x ∈ r, e.Carries x) :
    c.CarriesTo (c.put e.ident r) := by
  intro hc
  refine ⟨hc.put he fun x hx => ⟨(hr x hx).ident, (hr x hx).instant⟩, fun x hx => ?_⟩
  rcases Calendar.mem_put.mp hx with ⟨hx, -⟩ | ⟨hx, -⟩
  · exact ⟨x, hx, .refl x⟩
  · exact ⟨e, he, hr x hx⟩

/-- A fold of operations that carry the calendar on carries it on. -/
theorem foldl_carriesTo {α : Type} {f : State → α → State} (h : ∀ (s : State) (a : α), s.cal.CarriesTo (f s a).cal) (l : List α) (s : State) :
    s.cal.CarriesTo (l.foldl f s).cal := by
  induction l generalizing s with
  | nil => exact .refl _
  | cons a l ih => exact (h s a).trans (ih _)

theorem removeEntry_carriesTo (i : Nat) (s : State) : s.cal.CarriesTo (s.removeEntry i).cal := by
  intro hc
  rw [removeEntry_cal]
  by_cases hi : ∃ e ∈ s.cal.entries, e.ident = i
  · obtain ⟨e, he, rfl⟩ := hi
    exact Calendar.carriesTo_put he (by simp) hc
  · have hfree : ∀ e ∈ s.cal.entries, e.ident ≠ i := fun e he h => hi ⟨e, he, h⟩
    have hring : i ∉ s.cal.ring := fun h => by
      obtain ⟨e, he, hei, -⟩ := (hc.holds.mem_ring i).mp h
      exact hfree e he hei
    have hself : s.cal.put i none = s.cal := by
      have hentries : (s.cal.entries.filterMap fun x => if x.ident = i then none else some x) = s.cal.entries := by
        rw [← filter_ident_eq_filterMap, List.filter_eq_self.mpr]
        exact fun e he => by simpa using hfree e he
      have hkept : (s.cal.ring.filter fun j => j ≠ i) = s.cal.ring :=
        List.filter_eq_self.mpr fun j hj => by
          simp only [ne_eq, decide_eq_true_eq]
          rintro rfl
          exact hring hj
      simp only [Calendar.put, hentries]
      rw [if_neg (by simp), hkept]
    rw [hself]
    exact Calendar.CarriesTo.refl _ hc

theorem removeWithdrawn_carriesTo (s : State) : s.cal.CarriesTo s.removeWithdrawn.cal :=
  foldl_carriesTo (fun s (e : Entry) => removeEntry_carriesTo e.ident s) _ _

theorem onEntry_absent {s : State} {i : Nat} (h : s.findEntry i = none) (move : Entry → State → State) : s.onEntry i move = s := by
  unfold State.onEntry; rw [h]

theorem passEntry_absent {s : State} {i : Nat} (h : s.findEntry i = none) (now : Nat) : s.passEntry now i = s := by
  unfold State.passEntry
  rw [onEntry_absent h, onEntry_absent h, onEntry_absent h, onEntry_absent h]

theorem passEntry_carriesTo (now i : Nat) (s : State) : s.cal.CarriesTo (s.passEntry now i).cal := by
  intro hc
  cases hf : s.findEntry i with
  | none => rw [passEntry_absent hf]; exact Calendar.CarriesTo.refl _ hc
  | some e =>
    obtain ⟨he, rfl⟩ := findEntry_mem hf
    rw [passEntry_cal hc he]
    exact Calendar.carriesTo_put he (fun x hx => Entry.passed_carries hx) hc

theorem boundaryPass_carriesTo (now : Nat) (s : State) : s.cal.CarriesTo (s.boundaryPass now).cal :=
  (removeWithdrawn_carriesTo s).trans (foldl_carriesTo (fun s i => passEntry_carriesTo now i s) _ _)

theorem procedureEntry_carriesTo (loss : Option UtcSecond) (i : Nat) (s : State) : s.cal.CarriesTo (s.procedureEntry loss i).cal := by
  intro hc
  cases ht : s.tb.time with
  | none => unfold State.procedureEntry; rw [ht]; exact Calendar.CarriesTo.refl _ hc
  | some now =>
    cases hf : s.findEntry i with
    | none => unfold State.procedureEntry; rw [ht, hf]; exact Calendar.CarriesTo.refl _ hc
    | some e =>
      obtain ⟨he, rfl⟩ := findEntry_mem hf
      rw [procedureEntry_cal hc he ht]
      exact Calendar.carriesTo_put he (fun x hx => Entry.replaced_carries hx) hc

theorem discontinuity_carriesTo (loss : Option UtcSecond) (s : State) : s.cal.CarriesTo (s.discontinuity loss).cal :=
  (removeWithdrawn_carriesTo s).trans (foldl_carriesTo (fun s i => procedureEntry_carriesTo loss i s) _ _)

/-- The entry with the mark that a yes to the leap question about `k` at the end of `u` sets (R67). -/
def Entry.asked (k : Kind) (u : UtcSecond) (e : Entry) : Entry :=
  if e.kind = k ∧ e.state = .committed ∧ e.instant = u.minute + 1 then { e with leapExecuted := true } else e

theorem Entry.asked_frame (k : Kind) (u : UtcSecond) (e : Entry) : e.asked k u = { e with leapExecuted := (e.asked k u).leapExecuted } := by
  unfold Entry.asked; split <;> rfl

theorem Entry.asked_carries (k : Kind) (u : UtcSecond) (e : Entry) : e.Carries (e.asked k u) := by
  rw [Entry.asked_frame]; exact ⟨rfl, rfl, rfl, rfl, id, id⟩

theorem askLeap_entries (u : UtcSecond) (s : State) :
    (s.askLeap u).cal = s.cal ∨ ∃ k, (s.askLeap u).cal = { s.cal with entries := s.cal.entries.map (Entry.asked k u) } := by
  unfold State.askLeap
  split
  · exact .inl rfl
  · next k _ => exact .inr ⟨k, rfl⟩

theorem askLeap_carriesTo (u : UtcSecond) (s : State) : s.cal.CarriesTo (s.askLeap u).cal := by
  intro hc
  rcases askLeap_entries u s with h | ⟨k, h⟩
  · rw [h]; exact Calendar.CarriesTo.refl _ hc
  · have hentries : (s.askLeap u).cal.entries = s.cal.entries.filterMap fun e => some (e.asked k u) := by
      rw [h, ← List.filterMap_eq_map]; rfl
    have hstate : ∀ e : Entry, (e.asked k u).state = e.state := fun e => by rw [Entry.asked_frame]
    refine ⟨hc.filterMap (fun e _ x hx => ?_) hentries (by rw [h]; exact hc.holds.ringNodup) (fun i => ?_) (by rw [h]), fun x hx => ?_⟩
    · cases hx; exact ⟨(e.asked_carries k u).ident, (e.asked_carries k u).instant⟩
    · rw [h, hc.holds.mem_ring]
      simp only [List.mem_map]
      constructor
      · rintro ⟨e, he, hi, hr⟩
        exact ⟨_, ⟨e, he, rfl⟩, (e.asked_carries k u).ident.trans hi, (hstate e).symm ▸ hr⟩
      · rintro ⟨_, ⟨e, he, rfl⟩, hi, hr⟩
        exact ⟨e, he, (e.asked_carries k u).ident.symm.trans hi, hstate e ▸ hr⟩
    · rw [h] at hx
      obtain ⟨e, he, rfl⟩ := List.mem_map.mp hx
      exact ⟨e, he, e.asked_carries k u⟩

/-! ### The channels through the calendar's operations -/

/-- Every channel of `t` is what the one of `s` became. -/
def State.ChansReach (s t : State) : Prop := ∀ n, (s.chan n).Reaches (t.chan n)

theorem State.ChansReach.refl (s : State) : s.ChansReach s := fun _ => .refl

theorem State.ChansReach.of_eq {s t : State} (h : t.chans = s.chans) : s.ChansReach t := by
  intro n; unfold State.chan; rw [h]

theorem State.ChansReach.trans {s t u : State} (h : s.ChansReach t) (k : t.ChansReach u) : s.ChansReach u :=
  fun n => (h n).trans (k n)

theorem State.ChansReach.map {s t : State} {f : Channel → Channel} (h : t.chans = s.chans.map f) (hf : ∀ c : Channel, c.Reaches (f c)) :
    s.ChansReach t := by
  intro n; unfold State.chan; rw [h, Four.get_map]; exact hf _

/-- One channel changed. -/
theorem State.ChansReach.at {s t : State} {n : Fin 4} {d : Channel} (h : ∀ m, t.chan m = if m = n then d else s.chan m)
    (hd : (s.chan n).Reaches d) : s.ChansReach t := by
  intro m
  rw [h]
  split
  · next hm => rw [hm]; exact hd
  · exact .refl

theorem foldl_chansReach {α : Type} {f : State → α → State} (h : ∀ (s : State) (a : α), s.ChansReach (f s a)) (l : List α) (s : State) :
    s.ChansReach (l.foldl f s) := by
  induction l generalizing s with
  | nil => exact .refl _
  | cons a l ih => exact (h s a).trans (ih _)

theorem Channel.forget_reaches (i : Nat) (c : Channel) : c.Reaches { c with arbiter := c.arbiter.forget i } :=
  (Becomes.arbiter _ fun h => (Arbiter.keep_stack_length_le _ _).trans h).reaches

theorem leaveRing_chansReach (i : Nat) (s : State) : s.ChansReach (s.leaveRing i) := by
  unfold State.leaveRing
  split
  · exact .map rfl (Channel.forget_reaches i)
  · exact .refl s

theorem joinRing_chans (i : Nat) (s : State) : (s.joinRing i).chans = s.chans := by rw [joinRing_frame]

theorem removeEntry_chansReach (i : Nat) (s : State) : s.ChansReach (s.removeEntry i) :=
  (leaveRing_chansReach i s).trans (.of_eq rfl)

theorem finishEntry_chansReach (e : Entry) (o : EntryOutcome) (s : State) : s.ChansReach (s.finishEntry e o) := by
  have hleft : s.ChansReach ((s.leaveRing e.ident).modifyEntry e.ident fun e => { e with state := .done, outcome := some o }) :=
    (leaveRing_chansReach e.ident s).trans (.of_eq rfl)
  unfold State.finishEntry
  dsimp only
  split
  · exact hleft.trans (removeEntry_chansReach _ _)
  · exact hleft

theorem applyPayload_chans (p : Payload) (s : State) : (s.applyPayload p).chans = s.chans := by rw [applyPayload_frame]

theorem release_chansReach (i : Nat) (s : State) : s.ChansReach (s.release i) := by
  intro n; rw [release_chan]; exact Channel.released_reaches _ _ _ _

theorem onEntry_chansReach {move : Entry → State → State} (h : ∀ (e : Entry) (s : State), s.ChansReach (move e s)) (i : Nat) (s : State) :
    s.ChansReach (s.onEntry i move) := by
  unfold State.onEntry; split
  · exact h _ _
  · exact .refl s

theorem openEntry_chans (now : Nat) (e : Entry) (s : State) : (s.openEntry now e).chans = s.chans := by
  unfold State.openEntry; split
  · rw [joinRing_chans]; rfl
  · rfl

theorem commitEntry_chans (now : Nat) (e : Entry) (s : State) : (s.commitEntry now e).chans = s.chans := by
  unfold State.commitEntry; split <;> rfl

theorem effectEntry_chansReach (now : Nat) (e : Entry) (s : State) : s.ChansReach (s.effectEntry now e) := by
  have hfinish : ∀ (o : EntryOutcome) (c : Cause) (t : State), s.ChansReach t → s.ChansReach ((t.finishEntry e o).raise c) :=
    fun o c t h => h.trans ((finishEntry_chansReach e o t).trans (.of_eq rfl))
  unfold State.effectEntry
  split
  · split
    · exact hfinish _ _ _ (.of_eq (applyPayload_chans _ _))
    · exact hfinish _ _ _ (.refl s)
    · split <;> exact hfinish _ _ _ (.refl s)
    · split <;> exact hfinish _ _ _ (.refl s)
    · exact (leaveRing_chansReach e.ident s).trans (.of_eq rfl)
  · exact .refl s

theorem endOutage_chansReach (now : Nat) (e : Entry) (s : State) : s.ChansReach (s.endOutage now e) := by
  unfold State.endOutage; split
  · exact ((finishEntry_chansReach _ _ s).trans (release_chansReach _ _)).trans (.of_eq rfl)
  · exact .refl s

theorem passEntry_chansReach (now i : Nat) (s : State) : s.ChansReach (s.passEntry now i) :=
  (((onEntry_chansReach (fun e s => .of_eq (openEntry_chans now e s)) i s).trans
    (onEntry_chansReach (fun e s => .of_eq (commitEntry_chans now e s)) i _)).trans
    (onEntry_chansReach (effectEntry_chansReach now) i _)).trans (onEntry_chansReach (endOutage_chansReach now) i _)

theorem removeWithdrawn_chansReach (s : State) : s.ChansReach s.removeWithdrawn :=
  foldl_chansReach (fun s (e : Entry) => removeEntry_chansReach e.ident s) _ _

theorem boundaryPass_chansReach (now : Nat) (s : State) : s.ChansReach (s.boundaryPass now) :=
  (removeWithdrawn_chansReach s).trans (foldl_chansReach (fun s i => passEntry_chansReach now i s) _ _)

theorem recomputeEntry_chansReach (now : UtcSecond) (e : Entry) (s : State) : s.ChansReach (s.recomputeEntry now e) := by
  unfold State.recomputeEntry
  dsimp only
  split
  · exact .of_eq (joinRing_chans _ _)
  · exact leaveRing_chansReach e.ident (s.modifyEntry e.ident _)

theorem takeLate_chansReach (now : Nat) (e : Entry) (s : State) : s.ChansReach (s.takeLate now e) := by
  unfold State.takeLate
  refine State.ChansReach.trans ?_ (.of_eq rfl)
  split
  · split
    · exact finishEntry_chansReach e _ (s.modifyEntry e.ident _)
    · exact (leaveRing_chansReach e.ident (s.modifyEntry e.ident _)).trans (.of_eq rfl)
  all_goals exact State.ChansReach.trans (.of_eq (applyPayload_chans _ (s.modifyEntry e.ident _))) (finishEntry_chansReach _ _ _)

theorem replaceInEffect_chansReach (now : UtcSecond) (e : Entry) (s : State) : s.ChansReach (s.replaceInEffect now e) := by
  unfold State.replaceInEffect
  split
  · exact ((finishEntry_chansReach _ _ s).trans (release_chansReach _ _)).trans (.of_eq rfl)
  · split
    · exact .refl s
    · exact (recomputeEntry_chansReach now e (s.modifyEntry e.ident _)).trans (release_chansReach _ _)

theorem procedureEntry_chansReach (loss : Option UtcSecond) (i : Nat) (s : State) : s.ChansReach (s.procedureEntry loss i) := by
  unfold State.procedureEntry
  split
  · next now e _ _ =>
    split
    · exact .refl s
    · exact .refl s
    · exact replaceInEffect_chansReach _ _ _
    all_goals
      split
      · exact takeLate_chansReach _ _ (s.moveTime (e.corrected now))
      · split
        · exact takeLate_chansReach _ _ _
        · exact recomputeEntry_chansReach _ _ _
  · exact .refl s

theorem discontinuity_chansReach (loss : Option UtcSecond) (s : State) : s.ChansReach (s.discontinuity loss) :=
  ((removeWithdrawn_chansReach s).trans (foldl_chansReach (fun s i => procedureEntry_chansReach loss i s) _ _)).trans
    (.map rfl Channel.emptyArbiter_reaches)

end Sys2Proof.Machine
end

section
/-! What one command can do, block by block: the queue and the supplies stay, the calendar and the channels change as they know how, and the references keep their priorities. -/

namespace Sys2Proof.Machine

/-! ### States -/

/-- `t` is what `s` became without a request to the calendar, to the references or to the supplies. -/
structure State.Evolves (s t : State) : Prop where
  pending : t.pending = s.pending
  running : t.running = s.running
  cal : s.cal.CarriesTo t.cal
  chans : s.ChansReach t
  priority : ∀ r, (t.ref r).priority = (s.ref r).priority

theorem State.Evolves.refl (s : State) : s.Evolves s := ⟨rfl, rfl, .refl _, .refl _, fun _ => rfl⟩

theorem State.Evolves.trans {s t u : State} (h : s.Evolves t) (k : t.Evolves u) : s.Evolves u :=
  ⟨k.pending.trans h.pending, k.running.trans h.running, h.cal.trans k.cal, h.chans.trans k.chans,
    fun r => (k.priority r).trans (h.priority r)⟩

theorem ref_congr {s t : State} (h : t.mon = s.mon) (r : Ref) : t.ref r = s.ref r := by
  cases r <;> simp [State.ref, h]

@[simp] theorem State.ref_elapse (d : Nat) (r : Ref) (s : State) : (s.elapse d).ref r = s.ref r := ref_congr rfl r

@[simp] theorem State.ref_elapseTo (due : Nat) (r : Ref) (s : State) : (s.elapseTo due).ref r = s.ref r := s.ref_elapse _ r

/-- Whatever changes at most the calendar, the channels, the profiles, the meter and the attention record. -/
theorem State.calendarOnly.evolves {s t : State} (h : s.calendarOnly t) (hcal : s.cal.CarriesTo t.cal) (hchans : s.ChansReach t) :
    s.Evolves t :=
  ⟨by rw [h], by rw [h]; rfl, hcal, hchans, fun r => congrArg RefRecord.priority (ref_congr (by rw [h]) r)⟩

/-- Whatever leaves the calendar as well. -/
theorem State.Evolves.channels {s t : State} (h : t = { s with chans := t.chans, meter := t.meter, att := t.att }) (hchans : s.ChansReach t) :
    s.Evolves t :=
  ⟨by rw [h], by rw [h]; rfl, .of_eq (by rw [h]), hchans, fun r => congrArg RefRecord.priority (ref_congr (by rw [h]) r)⟩

/-- Whatever leaves the calendar, the channels and the references' records. -/
theorem State.Evolves.rest {s t : State} (h : t = { s with
    fin := t.fin, tb := t.tb, ret := t.ret, mon := t.mon, profiles := t.profiles, meter := t.meter, link := t.link, sdo := t.sdo, att := t.att })
    (hmon : ∀ r, (t.ref r).priority = (s.ref r).priority) : s.Evolves t :=
  ⟨by rw [h], by rw [h]; rfl, .of_eq (by rw [h]), .of_eq (by rw [h]), hmon⟩

theorem State.Evolves.elapse (d : Nat) (s : State) : s.Evolves (s.elapse d) := .rest rfl fun r => by cases r <;> rfl

theorem State.Evolves.elapseTo (due : Nat) (s : State) : s.Evolves (s.elapseTo due) := .elapse _ s

theorem State.Evolves.raise (c : Cause) (s : State) : s.Evolves (s.raise c) := .rest rfl fun r => by cases r <;> rfl

theorem State.Evolves.answer (code : Byte) (r : Result) (f : List Byte) (s : State) : s.Evolves (s.answer code r f) :=
  .rest rfl fun r => by cases r <;> rfl

theorem State.Evolves.refuse (code : Byte) (r : Result) (s : State) : s.Evolves (s.refuse code r) := .answer code r [] s

theorem State.Evolves.handed (p : Period) (s : State) : s.Evolves (s.handed p) := .rest rfl fun r => by cases r <;> rfl

theorem State.Evolves.setLink (l : Link) (s : State) : s.Evolves { s with link := l } := .rest rfl fun r => by cases r <;> rfl

theorem State.Evolves.setTb (b : Timebase) (s : State) : s.Evolves { s with tb := b } := .rest rfl fun r => by cases r <;> rfl

theorem State.Evolves.setChan {n : Fin 4} {d : Channel} {s : State} (h : (s.chan n).Reaches d) : s.Evolves (s.setChan n d) :=
  .channels rfl (.at (fun m => State.chan_setChan n m d s) h)

theorem State.Evolves.modifyChan {n : Fin 4} {f : Channel → Channel} {s : State} (h : (s.chan n).Reaches (f (s.chan n))) :
    s.Evolves (s.modifyChan n f) := .setChan h

/-- A reference's record replaced by one of its priority. -/
theorem State.Evolves.setRef {r : Ref} {x : RefRecord} {s : State} (h : x.priority = (s.ref r).priority) : s.Evolves (s.setRef r x) := by
  refine .rest (by cases r <;> rfl) fun q => ?_
  rw [State.ref_setRef]
  split
  · next hq => rw [hq, h]
  · rfl

/-! ### Delay Meter -/

theorem closeMeter_evolves (w : Working) (o : MeterOutcome) (a : Bool) (s : State) : s.Evolves (s.closeMeter w o a) :=
  .rest rfl fun r => by cases r <;> rfl

theorem abortMeasurement_evolves (s : State) : s.Evolves s.abortMeasurement := by
  refine .channels (abortMeasurement_frame s) fun m => ?_
  rw [abortMeasurement_chan]
  split
  · exact Channel.cutShort_reaches _
  · exact .refl

theorem openWindow_evolves (n : Fin 4) (s : State) : s.Evolves (s.openWindow n) := by
  unfold State.openWindow
  split
  · exact .refl s
  · split
    · exact .rest rfl fun r => by cases r <;> rfl
    · exact .refl s

theorem endMeasurement_evolves (w : Working) (s : State) : s.Evolves (s.endMeasurement w) := by
  unfold State.endMeasurement
  split
  · next h =>
    have hmean : w.mean ≤ 50000 := by
      have hvalid := h.1
      unfold Working.outcome at hvalid
      split at hvalid
      · next hm => exact hm.2
      · cases hvalid
    exact (State.Evolves.setChan (Channel.applyAdvance_reaches hmean _)).trans (closeMeter_evolves _ _ _ _)
  · exact closeMeter_evolves _ _ _ _

theorem sampleWindowClose_evolves (s : State) : s.Evolves (sampleWindowClose s) := by
  unfold sampleWindowClose
  split
  · exact .refl s
  · split
    · exact .refl s
    · dsimp only
      split
      · exact (State.Evolves.elapseTo _ s).trans (endMeasurement_evolves _ _)
      · exact (State.Evolves.elapseTo _ s).trans (.rest rfl fun r => by cases r <;> rfl)

theorem monitorLevel_evolves (n : Fin 4) (edge : Edge) (s : State) : s.Evolves (monitorLevel n edge s) :=
  .setChan (Channel.Becomes.plain _ rfl).reaches

theorem monitorEdge_evolves (n : Fin 4) (edge : Edge) (s : State) : s.Evolves (monitorEdge n edge s) := by
  refine (monitorLevel_evolves n edge s).trans ?_
  unfold monitorEdge
  dsimp only
  split
  · split
    · exact .rest rfl fun r => by cases r <;> rfl
    · exact .refl _
  · exact .refl _

/-! ### Channel Controllers -/

theorem moveChannel_evolves {n : Fin 4} {st : ChannelState} {s : State} (h : (s.chan n).Reaches ((s.chan n).moved st)) :
    s.Evolves (s.moveChannel n st) :=
  .channels (moveChannel_frame n st s) (.at (fun m => moveChannel_chan n m st s) h)

theorem moveByEvent_evolves {n : Fin 4} {st : ChannelState} {s : State} (h : (s.chan n).Reaches ((s.chan n).moved st)) :
    s.Evolves (s.moveByEvent n st) :=
  .channels (moveByEvent_frame n st s) (.at (fun m => moveByEvent_chan n m st s) h)

theorem startResuming_evolves {n : Fin 4} {s : State} (hs : (s.chan n).state ≠ .resuming) (h : (s.chan n).history.length < 4) :
    s.Evolves (s.startResuming n) :=
  .channels (startResuming_frame n s) (.at (fun m => startResuming_chan n m s) (Channel.resuming_reaches hs h _ _))

theorem channelBoundary_evolves (n : Fin 4) (s : State) : s.Evolves (s.channelBoundary n) :=
  .channels (channelBoundary_frame n s) (.at (fun m => channelBoundary_chan n m s) (Channel.crossed_reaches _ _))

theorem testDeferred_evolves (s : State) : s.Evolves (s.eachChannel State.testDeferred) :=
  .channels (eachChannel_frame testDeferred_frame s) fun m => by
    rw [testDeferred_each_chan]; exact Channel.testedDeferred_reaches _ _ _

theorem historyTimeExpiry_evolves (n : Fin 4) (s : State) : s.Evolves (historyTimeExpiry n s) := by
  unfold historyTimeExpiry
  split
  · exact .modifyChan (Channel.Becomes.expire _ (List.length_filter_le _ _)).reaches
  · exact .refl s

theorem tellFault_evolves (n : Fin 4) (high : Bool) (stood : Nat) (s : State) : s.Evolves (s.tellFault n high stood) :=
  .modifyChan (Channel.Becomes.plain _ rfl).reaches

theorem faultActive_evolves (n : Fin 4) (stood : Nat) (s : State) : s.Evolves (faultActive n stood s) := by
  refine (tellFault_evolves n true stood s).trans ?_
  unfold faultActive
  dsimp only
  split
  · exact .refl _
  · have hmark : (s.tellFault n true stood).Evolves
        ((s.tellFault n true stood).setChan n { (s.tellFault n true stood).chan n with fault := true }) :=
      .setChan (Channel.Becomes.plain _ rfl).reaches
    split
    · exact hmark
    · refine (hmark.trans (.modifyChan ?_)).trans (moveByEvent_evolves (Channel.moved_reaches (by simp) (by simp) _))
      exact ((Channel.undecided_reaches _).trans (Channel.emptyArbiter_reaches _)).tail (.plain _ rfl)

theorem faultInactive_evolves (n : Fin 4) (stood : Nat) (s : State) : s.Evolves (faultInactive n stood s) := by
  refine (tellFault_evolves n false stood s).trans ?_
  unfold faultInactive
  dsimp only
  split
  · exact .modifyChan (Channel.Becomes.plain _ rfl).reaches
  · exact .refl _

/-! ### Frame Composer -/

theorem Channel.beginFrame_reaches (c : Channel) : c.Reaches c.beginFrame := by
  unfold Channel.beginFrame
  split
  · exact .refl
  · exact c.emptyArbiter_reaches

theorem compose_evolves (n : Fin 4) (m : Nat) (s : State) : s.Evolves (s.compose n m) := by
  have hbegin : s.Evolves (s.modifyChan n Channel.beginFrame) := .modifyChan (Channel.beginFrame_reaches _)
  refine hbegin.trans ?_
  unfold State.compose
  dsimp only
  split
  · exact .setChan (Channel.Becomes.plain _ rfl).reaches
  · have hpass : ∀ (t : State) (l : Nat), (t.chan n).Becomes { t.chan n with arbiter := (t.passArbiter n l).carry } :=
      fun t l => .arbiter _ fun h => Arbiter.chosen_stack_length_le h _ _
    exact .setChan ((hpass _ _).reaches.tail (.plain _ rfl))

theorem decideChannel_evolves (now : Nat) (n : Fin 4) (s : State) : s.Evolves (s.decideChannel now n) := by
  unfold State.decideChannel
  dsimp only
  split
  · have hopen : s.Evolves (s.modifyChan n Channel.reopened) := .modifyChan (Channel.Becomes.plain _ rfl).reaches
    refine hopen.trans ?_
    split
    · exact .setChan (Channel.Becomes.plain _ rfl).reaches
    · split
      · exact .setChan (Channel.Becomes.plain _ rfl).reaches
      · exact compose_evolves _ _ _
  · exact .refl s

theorem eachChannel_evolves {f : Fin 4 → State → State} (h : ∀ (n : Fin 4) (s : State), s.Evolves (f n s)) (s : State) :
    s.Evolves (s.eachChannel f) :=
  (((h 0 s).trans (h 1 _)).trans (h 2 _)).trans (h 3 _)

theorem compositionInstant_evolves (now : Nat) (s : State) : s.Evolves (s.compositionInstant now) :=
  eachChannel_evolves (decideChannel_evolves now) s

/-- Nothing is keyed but in ON AIR and in CARRIER (R119, R142, R171). -/
theorem keyPlanFor_state {s : State} {n : Fin 4} {k : Nat} (h : s.keyPlanFor n k ≠ []) :
    (s.chan n).state = .onAir ∨ (s.chan n).state = .carrier := by
  unfold State.keyPlanFor at h
  cases hs : (s.chan n).state <;> simp_all

theorem keySecond_evolves (n : Fin 4) (k : Nat) (s : State) : s.Evolves (s.keySecond n k) := by
  unfold State.keySecond
  exact .modifyChan (Channel.Becomes.key _ _ fun h => keyPlanFor_state (k := k) (by simpa using h)).reaches

theorem keyingTimedChange_evolves (n : Fin 4) (s : State) : s.Evolves (keyingTimedChange n s) := by
  unfold keyingTimedChange
  split
  · exact .refl s
  · next x rest h => exact (State.Evolves.elapseTo _ s).trans (.modifyChan (Channel.Becomes.keyChange x rest h).reaches)

theorem toChannelSecond_evolves (n : Fin 4) (v : UtcSecond) (s : State) : s.Evolves (s.toChannelSecond n v) := by
  unfold State.toChannelSecond
  split
  · exact .refl s
  · exact .elapse _ s

theorem channelSecondStart_evolves (n : Fin 4) (s : State) : s.Evolves (channelSecondStart n s) := by
  unfold channelSecondStart
  split
  · exact .refl s
  · next v _ =>
    dsimp only
    refine .trans ?_ (openWindow_evolves _ _)
    refine .trans ?_ (keySecond_evolves _ _ _)
    have hlabel : s.Evolves ((s.toChannelSecond n v).modifyChan n fun c =>
        if (s.secondAfter v).second = 0 then
          { c with nextSecond := some (s.secondAfter v), inForce := c.pendingAdvance.getD c.inForce, pendingAdvance := none }
        else { c with nextSecond := some (s.secondAfter v) }) := by
      refine (toChannelSecond_evolves n v s).trans (.modifyChan ?_)
      split
      · exact .tail Channel.Becomes.advanceTaken.reaches (.plain _ rfl)
      · exact (Channel.Becomes.plain _ rfl).reaches
    split
    · exact hlabel.trans (channelBoundary_evolves _ _)
    · exact hlabel

/-! ### Timebase -/

theorem deriveGrade_evolves (s : State) : s.Evolves s.deriveGrade :=
  .rest (by rw [deriveGrade_frame]) fun r => by rw [deriveGrade_frame]; cases r <;> rfl

theorem clearMismatch_evolves (r : Option Ref) (s : State) : s.Evolves (s.clearMismatch r) := by
  cases r with
  | none => exact .refl s
  | some r => exact .setRef rfl

theorem select_evolves (sel : Option Ref) (first : Bool) (s : State) : s.Evolves (s.select sel first) := by
  unfold State.select
  split
  · exact .refl s
  · have hclear := (clearMismatch_evolves s.mon.selection s).trans (clearMismatch_evolves sel _)
    refine (hclear.trans (.rest rfl fun r => ?_)).trans (.raise _ _)
    cases r <;> rfl

theorem followSelection_evolves (s : State) : s.Evolves s.followSelection :=
  .rest (by rw [followSelection_frame]) fun r => by rw [followSelection_frame]; cases r <;> rfl

theorem evaluate_evolves (s : State) : s.Evolves s.evaluate := by
  have hruns : s.Evolves { s with mon := { s.mon with a := s.mon.a.evaluated, b := s.mon.b.evaluated } } :=
    .rest rfl fun r => by cases r <;> rfl
  exact (hruns.trans (select_evolves _ _ _)).trans (followSelection_evolves _)

theorem setLength_evolves (s : State) : s.Evolves s.setLength :=
  .rest (by rw [setLength_frame]) fun r => by rw [setLength_frame]; cases r <;> rfl

theorem minuteBoundary_evolves (now : Nat) (s : State) : s.Evolves (s.minuteBoundary now) :=
  ((boundaryPass_calendarOnly now s).evolves (boundaryPass_carriesTo now s) (boundaryPass_chansReach now s)).trans (testDeferred_evolves _)

theorem handOn_evolves (u : UtcSecond) (s : State) : s.Evolves (s.handOn u) := by
  have hbegun := (evaluate_evolves s).trans (setLength_evolves _)
  unfold State.handOn
  dsimp only
  split
  · exact hbegun.trans (minuteBoundary_evolves _ _)
  · split
    · exact hbegun.trans (compositionInstant_evolves _ _)
    · exact hbegun

theorem endChannel_evolves (n : Fin 4) (s : State) : s.Evolves (s.endChannel n) := by
  have hend : ∀ t : State, t.Evolves (t.modifyChan n fun c => { c.releaseKey with nextSecond := none, onAir := none, staged := none }) :=
    fun t => .modifyChan ((Channel.releaseKey_reaches _).tail (.plain _ rfl))
  unfold State.endChannel
  dsimp only
  split
  · exact (channelBoundary_evolves n s).trans (hend _)
  · exact hend s

theorem fallUnset_evolves (s : State) : s.Evolves s.fallUnset := by
  unfold State.fallUnset
  refine .trans ?_ (eachChannel_evolves endChannel_evolves _)
  exact (((abortMeasurement_evolves s).trans (.setTb _ _)).trans (select_evolves _ _ _)).trans (deriveGrade_evolves _)

theorem placeChannels_evolves (u : UtcSecond) (s : State) : s.Evolves (s.placeChannels u) :=
  .channels rfl (.map (f := fun c => { c with nextSecond := some (s.channelSecondNow u c) }) rfl fun _ => (Channel.Becomes.plain _ rfl).reaches)

theorem placeLabel_evolves (u : UtcSecond) (s : State) : s.Evolves (s.placeLabel u) := .rest rfl fun r => by cases r <;> rfl

theorem askLeap_evolves (u : UtcSecond) (s : State) : s.Evolves (s.askLeap u) :=
  (askLeap_calendarOnly u s).evolves (askLeap_carriesTo u s) (.of_eq (by unfold State.askLeap; split <;> rfl))

theorem nextStationSecond_evolves (stepped : Bool) (u : UtcSecond) (s : State) : s.Evolves (s.nextStationSecond stepped u) := by
  unfold State.nextStationSecond
  dsimp only
  refine (askLeap_evolves u s).trans ?_
  split
  · exact fallUnset_evolves _
  · refine .trans ?_ (handOn_evolves _ _)
    split
    · exact (placeLabel_evolves _ _).trans (placeChannels_evolves _ _)
    · exact placeLabel_evolves _ _

theorem stationSecond_evolves (s : State) : s.Evolves (stationSecond s) := by
  unfold stationSecond
  split
  · exact .refl s
  · exact (State.Evolves.elapse _ s).trans (nextStationSecond_evolves _ _ _)

theorem discontinuity_none_evolves (s : State) : s.Evolves (s.discontinuity none) :=
  (discontinuity_calendarOnly s).evolves (discontinuity_carriesTo none s) (discontinuity_chansReach none s)

theorem Channel.placed_reaches (c : Channel) : c.Reaches c.placed := by
  unfold Channel.placed
  split
  · exact c.undecided_reaches
  · exact .refl

theorem place_evolves (u : UtcSecond) (s : State) : s.Evolves (s.place u) := by
  unfold State.place
  refine .trans ?_ (handOn_evolves _ _)
  refine .trans ?_ (placeChannels_evolves _ _)
  refine .trans ?_ (discontinuity_none_evolves _)
  refine .trans ?_ (deriveGrade_evolves _)
  refine ((abortMeasurement_evolves s).trans (placeLabel_evolves u _)).trans ?_
  exact ⟨rfl, rfl, .refl _, .map rfl Channel.placed_reaches, fun r => by cases r <;> rfl⟩

theorem stepPhase_evolves (s : State) : s.Evolves s.stepPhase := by
  have hrestart : ∀ t : State, t.Evolves ({ t with tb := { t.tb with elapsed := 0 } } : State).evaluate.setLength := fun t =>
    ((State.Evolves.setTb _ t).trans (evaluate_evolves _)).trans (setLength_evolves _)
  unfold State.stepPhase
  dsimp only
  have hstep : s.Evolves (({ s.abortMeasurement with
      tb := { s.abortMeasurement.tb with remainder := 0, measured := none, phaseError := 0 }
      mon := { s.abortMeasurement.mon with firstEdge := false } } : State).deriveGrade) :=
    ((abortMeasurement_evolves s).trans (.rest rfl fun r => by cases r <;> rfl)).trans (deriveGrade_evolves _)
  split
  · exact hstep
  · refine hstep.trans ?_
    split
    · exact hrestart _
    · exact nextStationSecond_evolves _ _ _

theorem measure_evolves (s : State) : s.Evolves s.measure := by
  unfold State.measure
  dsimp only
  split
  · exact .refl s
  · split
    · exact stepPhase_evolves s
    · refine .trans ?_ (deriveGrade_evolves _)
      split
      · exact .rest rfl fun r => by cases r <;> rfl
      · split
        · exact .rest rfl fun r => by cases r <;> rfl
        · exact .rest rfl fun r => by cases r <;> rfl

theorem adopt_evolves (r : Ref) (l : Label) (s : State) : s.Evolves (s.adopt r l) := by
  have hlock : ∀ t : State, t.Evolves { t with tb := { t.tb with state := .locked }, mon := { t.mon with firstEdge := false } } :=
    fun t => .rest rfl fun q => by cases q <;> rfl
  have hagree : ∀ t : State, t.Evolves (t.setRef r { t.ref r with agreement := true, carried := false }) := fun t => .setRef rfl
  unfold State.adopt
  exact (((select_evolves _ _ s).trans (hagree _)).trans (hlock _)).trans (place_evolves _ _)

/-! ### Reference Monitor -/

theorem RefRecord.takeCharacter_priority (v : Byte) (late : Bool) (x : RefRecord) : (x.takeCharacter v late).priority = x.priority := by
  fun_cases RefRecord.takeCharacter <;> rfl

theorem referenceCharacter_evolves (r : Ref) (v : Byte) (parity stop : Bool) (s : State) : s.Evolves (referenceCharacter r v parity stop s) := by
  unfold referenceCharacter
  dsimp only
  split
  · exact .refl s
  · split
    · exact .setRef (RefRecord.takeCharacter_priority _ _ _)
    · exact .setRef rfl

theorem lateMessage_evolves (r : Ref) (s : State) : s.Evolves (lateMessage r s) := by
  unfold lateMessage
  dsimp only
  split
  · exact .refl s
  · split
    · exact .refl s
    · refine (State.Evolves.elapseTo _ s).trans (.setRef ?_)
      rw [State.ref_elapseTo]

theorem RefRecord.qualify_priority (v : Verdict) (x : RefRecord) : (x.qualify v).priority = x.priority := by
  fun_cases RefRecord.qualify <;> rfl

theorem RefRecord.judged_priority (v : Verdict) (x : RefRecord) : (x.judged v).priority = x.priority :=
  (RefRecord.qualify_priority v _).trans rfl

theorem judge_evolves (r : Ref) (v : Verdict) (s : State) : s.Evolves (s.judge r v) := by
  have hset : s.Evolves (s.setRef r ((s.ref r).judged v)) := .setRef (RefRecord.judged_priority _ _)
  have hraise : s.Evolves (if ((s.ref r).judged v).state = (s.ref r).state then s.setRef r ((s.ref r).judged v)
      else (s.setRef r ((s.ref r).judged v)).raise .referenceChanged) := by
    split
    · exact hset
    · exact hset.trans (.raise _ _)
  have hlink : ∀ t : State, s.Evolves t → s.Evolves (if (s.ref r).state = .qualified ∧ ((s.ref r).judged v).state ≠ .qualified ∧
      t.link = .working (.adopting r) then { t with link := .replyHeld [0x12, Result.wrongState.byte] } else t) := by
    intro t h
    split
    · exact h.trans (.setLink _ _)
    · exact h
  exact hlink _ hraise

theorem judgeAgreement_evolves (r : Ref) (s : State) : s.Evolves (s.judgeAgreement r) := by
  unfold State.judgeAgreement
  dsimp only
  split
  · exact .setRef rfl
  · exact .refl s

theorem checkLeap_evolves (r : Ref) (s : State) : s.Evolves (s.checkLeap r) := by
  unfold State.checkLeap
  dsimp only
  split
  · exact .refl s
  · split
    · exact .setRef rfl
    · split
      · exact .refl s
      · refine State.Evolves.trans (.setRef ?_) (.raise _ _)
        rfl

theorem adoptOrCarry_evolves (r : Ref) (l : Label) (s : State) : s.Evolves (s.adoptOrCarry r l) := by
  unfold State.adoptOrCarry
  split
  · exact .setRef rfl
  · exact adopt_evolves _ _ _

theorem goodEdge_evolves (r : Ref) (l : Label) (s : State) : s.Evolves (s.goodEdge r l) := by
  unfold State.goodEdge
  dsimp only
  have hclear : s.Evolves (s.setRef r { s.ref r with carried := false }) := .setRef rfl
  split
  · exact hclear.trans (adoptOrCarry_evolves _ _ _)
  · split
    · exact (hclear.trans (checkLeap_evolves _ _)).trans (measure_evolves _)
    · split
      · split
        · exact hclear.trans (adoptOrCarry_evolves _ _ _)
        · split
          · exact hclear
          · refine State.Evolves.trans (hclear.trans (.setRef ?_)) (.raise _ _)
            rw [State.ref_setRef_same]
      · exact hclear

theorem adoptRequested_evolves (r : Ref) (l : Label) (s : State) : s.Evolves (s.adoptRequested r l) := by
  unfold State.adoptRequested
  split
  · exact (State.Evolves.setLink _ s).trans (goodEdge_evolves _ _ _)
  · split
    · exact (State.Evolves.setLink _ s).trans (goodEdge_evolves _ _ _)
    · split
      · exact goodEdge_evolves _ _ _
      · dsimp only
        refine .trans (.trans ?_ (adopt_evolves _ _ _)) (.setLink _ _)
        split
        · exact checkLeap_evolves _ _
        · exact .refl s

theorem reachVerdict_evolves (r : Ref) (v : Verdict) (s : State) : s.Evolves (s.reachVerdict r v) := by
  unfold State.reachVerdict
  dsimp only
  split
  · have hjudged := (judge_evolves r v s).trans (judgeAgreement_evolves r _)
    split
    · exact hjudged
    · split
      · exact hjudged.trans (adoptRequested_evolves _ _ _)
      · exact hjudged.trans (goodEdge_evolves _ _ _)
  · exact judge_evolves _ _ _

theorem referenceEdge_evolves (r : Ref) (edge : Edge) (pulse : Nat) (s : State) : s.Evolves (referenceEdge r edge pulse s) := by
  unfold referenceEdge
  dsimp only
  split
  · exact .refl s
  · split
    · exact .setRef rfl
    · refine State.Evolves.trans (.setRef ?_) (reachVerdict_evolves _ _ _)
      rfl

theorem noEdge_evolves (r : Ref) (s : State) : s.Evolves (noEdge r s) := by
  unfold noEdge
  dsimp only
  split
  · exact .refl s
  · split
    · exact .refl s
    · refine State.Evolves.trans ((State.Evolves.elapseTo _ s).trans (.setRef ?_)) (reachVerdict_evolves _ _ _)
      rw [State.ref_elapseTo]

end Sys2Proof.Machine
end

section
/-! The operands of the requests (11, section 12.3): for each encoding, when its byte is read and what it reads as. -/

namespace Sys2Proof.Machine

theorem fin4?_eq_some_iff {b : Byte} {n : Fin 4} : fin4? b = some n ↔ n.val = b.toNat := by
  unfold fin4?
  split
  · rw [Option.some.injEq, Fin.ext_iff]
    exact eq_comm
  · next h =>
    have := n.isLt
    simp only [reduceCtorEq, false_iff]
    omega

theorem fin4?_eq_none_iff {b : Byte} : fin4? b = none ↔ 4 ≤ b.toNat := by
  unfold fin4?
  split <;> simp_all

theorem yesNo?_eq_some_iff {b : Byte} {x : Bool} : yesNo? b = some x ↔ b.toNat ≤ 1 ∧ x = decide (b.toNat = 1) := by
  unfold yesNo?
  by_cases h0 : b = 0
  · subst h0; cases x <;> simp
  · by_cases h1 : b = 1
    · subst h1; cases x <;> simp
    · have hbig : ¬b.toNat ≤ 1 := by bv_omega
      rw [if_neg h0, if_neg h1]; simp [hbig]

theorem yesNo?_eq_none_iff {b : Byte} : yesNo? b = none ↔ 2 ≤ b.toNat := by
  unfold yesNo?
  by_cases h0 : b = 0
  · subst h0; simp
  · by_cases h1 : b = 1
    · subst h1; simp
    · have hbig : 2 ≤ b.toNat := by bv_omega
      rw [if_neg h0, if_neg h1]; simp [hbig]

theorem labelMode?_eq_some_iff {b : Byte} {m : LabelMode} :
    labelMode? b = some m ↔ b.toNat ≤ 1 ∧ m = if b.toNat = 0 then .forward else .current := by
  unfold labelMode?
  by_cases h0 : b = 0
  · subst h0; simp [eq_comm]
  · by_cases h1 : b = 1
    · subst h1; simp [eq_comm]
    · have hbig : ¬b.toNat ≤ 1 := by bv_omega
      rw [if_neg h0, if_neg h1]; simp [hbig]

theorem mask?_eq_some_iff {b : Byte} {m : Mask} :
    mask? b = some m ↔ b.toNat ≤ 7 ∧ m = ⟨b.getLsbD 0, b.getLsbD 1, b.getLsbD 2⟩ := by
  rw [mask?, Option.ite_none_right_eq_some, Option.some.injEq, Nat.lt_succ_iff]
  exact and_congr_right fun _ => eq_comm

theorem lineByte?_eq_some_iff {b : Byte} {x : Bool × Edge} :
    lineByte? b = some x ↔ b.toNat ≤ 3 ∧ x = (b.getLsbD 0, if b.getLsbD 1 then .falling else .rising) := by
  rw [lineByte?, Option.ite_none_right_eq_some, Option.some.injEq, Nat.lt_succ_iff]
  exact and_congr_right fun _ => eq_comm

theorem offset?_eq_some_iff {b : Byte} {o : Int} : offset? b = some o ↔ (-48 ≤ b.toInt ∧ b.toInt ≤ 56) ∧ o = b.toInt := by
  rw [offset?, Option.ite_none_right_eq_some, Option.some.injEq]
  exact and_congr_right fun _ => eq_comm

theorem ref?_eq_some_iff {b : Byte} {r : Ref} : ref? b = some r ↔ b.toNat ≤ 1 ∧ r = if b = 0 then .a else .b := by
  by_cases h : b.toNat ≤ 1
  · rw [ref?_of_le_one h, Option.some.injEq]
    simp only [h, true_and]
    exact eq_comm
  · rw [ref?_of_two_le (by omega)]
    simp [h]

/-- Ten bytes give a configuration exactly when every field lies in its values and the doubt level is at most the silence level (R141). -/
theorem channelConfig?_eq_some_iff {link mode ident dwell doubt silence mask d2 d1 d0 : Byte} {cfg : ChannelConfig} :
    channelConfig? [link, mode, ident, dwell, doubt, silence, mask, d2, d1, d0] = some cfg ↔
      (link.toNat ≤ 3 ∧ mode.toNat ≤ 1 ∧ ident.toNat ≤ 15 ∧ 1 ≤ dwell.toNat ∧ dwell.toNat ≤ 15 ∧ 1 ≤ doubt.toNat ∧
        doubt.toNat ≤ silence.toNat ∧ silence.toNat ≤ 6 ∧ mask.toNat ≤ 7 ∧ word24 d2 d1 d0 ≤ 50000) ∧
      ∃ k : Fin 4, k.val = link.toNat ∧ cfg =
        { link := k, mode := if mode.toNat = 0 then .forward else .current, identity := ident.toNat, dwell := dwell.toNat
          doubt := doubt.toNat, silence := silence.toNat, mask := ⟨mask.getLsbD 0, mask.getLsbD 1, mask.getLsbD 2⟩
          drive := word24 d2 d1 d0 } := by
  simp only [channelConfig?, Option.bind_eq_bind, Option.bind_eq_some_iff, fin4?_eq_some_iff, labelMode?_eq_some_iff, inRange?_eq_some_iff,
    mask?_eq_some_iff, Option.pure_def, Option.some.injEq]
  constructor
  · rintro ⟨k, hk, m, ⟨hmode, rfl⟩, _, ⟨⟨-, hident⟩, rfl⟩, _, ⟨⟨hdwell, hdwell'⟩, rfl⟩, _, ⟨⟨-, hsilence⟩, rfl⟩, _, ⟨⟨hdoubt, hdoubt'⟩, rfl⟩,
      _, ⟨hmask, rfl⟩, _, ⟨⟨-, hdrive⟩, rfl⟩, rfl⟩
    have := k.isLt
    exact ⟨⟨by omega, hmode, hident, hdwell, hdwell', hdoubt, hdoubt', hsilence, hmask, hdrive⟩, k, hk, rfl⟩
  · rintro ⟨⟨-, hmode, hident, hdwell, hdwell', hdoubt, hdoubt', hsilence, hmask, hdrive⟩, k, hk, rfl⟩
    exact ⟨k, hk, _, ⟨hmode, rfl⟩, _, ⟨⟨Nat.zero_le _, hident⟩, rfl⟩, _, ⟨⟨hdwell, hdwell'⟩, rfl⟩, _,
      ⟨⟨hdoubt.trans hdoubt', hsilence⟩, rfl⟩, _, ⟨⟨hdoubt, hdoubt'⟩, rfl⟩, _, ⟨hmask, rfl⟩, _, ⟨⟨Nat.zero_le _, hdrive⟩, rfl⟩, rfl⟩

/-- Whatever configuration is read is legal (R140, R141). -/
theorem channelConfig?_legal {f : List Byte} {cfg : ChannelConfig} (h : channelConfig? f = some cfg) : cfg.legal := by
  match f, h with
  | [link, mode, ident, dwell, doubt, silence, mask, d2, d1, d0], h =>
    obtain ⟨⟨-, -, hident, hdwell, hdwell', hdoubt, hdoubt', hsilence, -, hdrive⟩, k, -, rfl⟩ := channelConfig?_eq_some_iff.mp h
    exact ⟨hident, hdwell, hdwell', hdoubt, hdoubt', hsilence, hdrive⟩

end Sys2Proof.Machine
end

section
/-! The calendar's idents and order (R56, R58): the first free ident, an entry's place, and that an entry put in its place keeps the calendar sound. -/

namespace Sys2Proof.Machine

/-! ### Idents -/

/-- The ident `j` places after `i`, 65,535 followed by 1 (R58). -/
def identFrom (i j : Nat) : Nat := (i - 1 + j) % 65535 + 1

theorem identFrom_zero {i : Nat} (h : 1 ≤ i ∧ i ≤ 65535) : identFrom i 0 = i := by
  unfold identFrom; omega

theorem identFrom_range (i j : Nat) : 1 ≤ identFrom i j ∧ identFrom i j ≤ 65535 := by
  unfold identFrom; omega

theorem identAfter_identFrom (i j : Nat) : identAfter (identFrom i j) = identFrom i (j + 1) := by
  unfold identAfter identFrom; split <;> omega

theorem identFrom_identAfter {i : Nat} (h : 1 ≤ i ∧ i ≤ 65535) (j : Nat) : identFrom (identAfter i) j = identFrom i (j + 1) := by
  unfold identAfter identFrom; split <;> omega

theorem identAfter_range {i : Nat} (h : 1 ≤ i ∧ i ≤ 65535) : 1 ≤ identAfter i ∧ identAfter i ≤ 65535 := by
  unfold identAfter; split <;> omega

theorem identFrom_injOn (i : Nat) {j k : Nat} (hj : j < 65535) (hk : k < 65535) (h : identFrom i j = identFrom i k) : j = k := by
  unfold identFrom at h; omega

/-- The search passes over idents that are held, one after another, and stops at the first that is free while it has tries left (R58). -/
theorem freeIdent_spec (entries : List Entry) (tries : Nat) {i : Nat} (hi : 1 ≤ i ∧ i ≤ 65535) :
    ∃ j ≤ tries, freeIdent entries tries i = identFrom i j ∧ (∀ k < j, ∃ e ∈ entries, e.ident = identFrom i k) ∧
      (j < tries → ∀ e ∈ entries, e.ident ≠ identFrom i j) := by
  induction tries generalizing i with
  | zero => exact ⟨0, le_rfl, (identFrom_zero hi).symm, by simp, by simp⟩
  | succ tries ih =>
    by_cases hheld : entries.any (fun e => e.ident == i) = true
    · obtain ⟨j, hj, heq, hbefore, hfree⟩ := ih (identAfter_range hi)
      obtain ⟨e, he, hei⟩ : ∃ e ∈ entries, e.ident = i := by simpa using hheld
      refine ⟨j + 1, by omega, ?_, ?_, ?_⟩
      · rw [freeIdent, if_pos hheld, heq, identFrom_identAfter hi]
      · rintro (_ | k) hk
        · exact ⟨e, he, by rw [hei, identFrom_zero hi]⟩
        · obtain ⟨e, he, hek⟩ := hbefore k (by omega)
          exact ⟨e, he, by rw [hek, identFrom_identAfter hi]⟩
      · intro hlt e he
        rw [← identFrom_identAfter hi]
        exact hfree (by omega) e he
    · refine ⟨0, Nat.zero_le _, ?_, by simp, fun _ e he => ?_⟩
      · rw [freeIdent, if_neg hheld, identFrom_zero hi]
      · rw [identFrom_zero hi]
        exact fun hei => hheld (by simpa using ⟨e, he, hei⟩)

/-- A calendar of at most 32 entries leaves one of 33 idents free. -/
theorem freeIdent_free {entries : List Entry} (hlen : entries.length ≤ 32) {i : Nat} (hi : 1 ≤ i ∧ i ≤ 65535) :
    ∃ j, freeIdent entries 33 i = identFrom i j ∧ (∀ k < j, ∃ e ∈ entries, e.ident = identFrom i k) ∧
      ∀ e ∈ entries, e.ident ≠ identFrom i j := by
  obtain ⟨j, hj, heq, hbefore, hfree⟩ := freeIdent_spec entries 33 hi
  refine ⟨j, heq, hbefore, hfree (Nat.lt_of_le_of_ne hj ?_)⟩
  rintro rfl
  have hnodup : ((List.range 33).map (identFrom i)).Nodup :=
    List.nodup_range.map_on fun a ha b hb hab => by
      rw [List.mem_range] at ha hb
      exact identFrom_injOn i (by omega) (by omega) hab
  have hsub : (List.range 33).map (identFrom i) ⊆ entries.map Entry.ident := by
    intro x hx
    obtain ⟨k, hk, rfl⟩ := List.mem_map.mp hx
    obtain ⟨e, he, hek⟩ := hbefore k (List.mem_range.mp hk)
    exact List.mem_map.mpr ⟨e, he, hek⟩
  have hcount := (hnodup.subperm hsub).length_le
  simp only [List.length_map, List.length_range] at hcount
  omega

/-! ### Places -/

theorem insertEntry_perm (e : Entry) (l : List Entry) : (insertEntry e l).Perm (e :: l) := by
  induction l with
  | nil => exact .refl _
  | cons f l ih =>
    unfold insertEntry
    split
    · exact .refl _
    · exact (ih.cons f).trans (.swap e f l)

theorem Entry.precedes_iff {e f : Entry} : e.precedes f = true ↔ e.instant < f.instant ∨ (e.instant = f.instant ∧ e.ident < f.ident) := by
  simp [Entry.precedes]

theorem Entry.precedes_trans {e f g : Entry} (h : e.precedes f = true) (k : f.precedes g = true) : e.precedes g = true := by
  rw [Entry.precedes_iff] at *; omega

theorem Entry.precedes_of_not {e f : Entry} (hne : f.ident ≠ e.ident) (h : ¬e.precedes f = true) : f.precedes e = true := by
  rw [Entry.precedes_iff] at *; omega

/-- An entry of a new ident takes its place in calendar order (R56). -/
theorem insertEntry_ordered {e : Entry} {l : List Entry} (h : l.Pairwise fun e f => e.precedes f = true) (hfree : ∀ f ∈ l, f.ident ≠ e.ident) :
    (insertEntry e l).Pairwise fun e f => e.precedes f = true := by
  induction l with
  | nil => exact List.pairwise_singleton _ _
  | cons f l ih =>
    obtain ⟨hf, hl⟩ := List.pairwise_cons.mp h
    unfold insertEntry
    split
    · next hef =>
      refine List.pairwise_cons.mpr ⟨fun g hg => ?_, h⟩
      rcases List.mem_cons.mp hg with rfl | hg
      · exact hef
      · exact Entry.precedes_trans hef (hf g hg)
    · next hef =>
      refine List.pairwise_cons.mpr ⟨fun g hg => ?_, ih hl fun g hg => hfree g (List.mem_cons_of_mem _ hg)⟩
      rcases List.mem_cons.mp ((insertEntry_perm e l).mem_iff.mp hg) with rfl | hg
      · exact Entry.precedes_of_not (hfree f List.mem_cons_self) hef
      · exact hf g hg

theorem mem_insertEntry {e x : Entry} {l : List Entry} : x ∈ insertEntry e l ↔ x = e ∨ x ∈ l := by
  rw [(insertEntry_perm e l).mem_iff, List.mem_cons]

/-- An entry put among some of a sound calendar's entries, its ident new to them, leaves a sound calendar whose ring fits. -/
theorem Calendar.sound.insert {c : Calendar} (h : c.sound) {l : List Entry} (hl : l.Sublist c.entries) {e : Entry} {next : Nat}
    (hlen : l.length < 32) (hfree : ∀ f ∈ l, f.ident ≠ e.ident) (hrange : 1 ≤ e.ident ∧ e.ident ≤ 65535)
    (hmem : ∀ i, i ∈ c.ring ↔ ∃ x ∈ insertEntry e l, x.ident = i ∧ x.state.inRing = true) (hnext : 1 ≤ next ∧ next ≤ 65535) :
    ({ c with entries := insertEntry e l, nextIdent := next } : Calendar).sound := by
  have k := h.holds
  have hperm := insertEntry_perm e l
  refine Calendar.sound_iff.mpr ⟨?_, ?_, ?_, ?_, k.ringNodup, hmem, hnext⟩
  · rw [hperm.length_eq, List.length_cons]; omega
  · exact insertEntry_ordered (k.ordered.sublist hl) hfree
  · rw [(hperm.map Entry.ident).nodup_iff, List.map_cons, List.nodup_cons]
    refine ⟨fun hi => ?_, (hl.map Entry.ident).nodup k.idents⟩
    obtain ⟨f, hf, hfi⟩ := List.mem_map.mp hi
    exact hfree f hf hfi
  · intro x hx
    rcases mem_insertEntry.mp hx with rfl | hx
    · exact hrange
    · exact k.range x (hl.subset hx)

end Sys2Proof.Machine
end

section
/-! What one step can do, command by command, and the invariants of the calendar, the queue and the keying that follow from it (R54 to R61, R142, R179). -/

namespace Sys2Proof.Machine

/-! ### Calendars and states across a step -/

/-- What a step does to a calendar: a sound one stays sound, fitting marks stay fitting, and a locked entry keeps its terms and its mark. -/
structure Calendar.StepsTo (c d : Calendar) : Prop where
  sound : c.sound → d.sound
  fits : c.sound → c.marksFit → d.marksFit
  locked : c.sound → ∀ e ∈ c.entries, e.locked = true → ∀ x ∈ d.entries, x.ident = e.ident →
    x.instant = e.instant ∧ x.lead = e.lead ∧ x.payload = e.payload ∧ x.locked = true

theorem Calendar.CarriesTo.stepsTo {c d : Calendar} (h : c.CarriesTo d) : c.StepsTo d where
  sound hc := (h hc).1
  fits hc hfit x hx := by
    obtain ⟨e, he, hex⟩ := (h hc).2 x hx
    exact hex.fits (hfit e he)
  locked hc e he hl x hx hi := by
    obtain ⟨f, hf, hfx⟩ := (h hc).2 x hx
    obtain rfl := entry_eq_of_ident hc.holds.idents hf he (hfx.ident.symm.trans hi)
    exact ⟨hfx.instant, hfx.lead, hfx.payload, hfx.locked hl⟩

/-- What a step does to the part. -/
structure State.StepsTo (s t : State) : Prop where
  pending : t.pending = s.pending
  cal : s.cal.StepsTo t.cal
  chans : s.ChansReach t
  mon : s.mon.sound → t.mon.sound
  keying : t.running = true ∨ (∀ n, (t.chan n).key = false ∧ (t.chan n).keyPlan = []) ∨
    (t.running = s.running ∧ ∀ n, (t.chan n).key = (s.chan n).key ∧ (t.chan n).keyPlan = (s.chan n).keyPlan)

theorem State.StepsTo.refl (s : State) : s.StepsTo s :=
  ⟨rfl, (Calendar.CarriesTo.refl _).stepsTo, .refl s, id, .inr (.inr ⟨rfl, fun _ => ⟨rfl, rfl⟩⟩)⟩

theorem Monitor.sound_of_priority {s t : State} (h : ∀ r, (t.ref r).priority = (s.ref r).priority) (hs : s.mon.sound) : t.mon.sound := by
  have ha : t.mon.a.priority = s.mon.a.priority := h .a
  have hb : t.mon.b.priority = s.mon.b.priority := h .b
  unfold Monitor.sound
  rw [ha, hb]
  exact hs

theorem State.Evolves.stepsTo {s t : State} (h : s.Evolves t) (hr : s.running = true) : s.StepsTo t :=
  ⟨h.pending, h.cal.stepsTo, h.chans, Monitor.sound_of_priority h.priority, .inl (h.running.trans hr)⟩

/-- What a request does to the part at the end of its select period, it does to the part before it. -/
theorem State.StepsTo.of_handed {p : Period} {s t : State} (h : (s.handed p).StepsTo t) : s.StepsTo t :=
  ⟨h.pending, h.cal, h.chans, h.mon, h.keying⟩

theorem takeRequest_stepsTo {owner : List Byte → State → State} (h : ∀ f (s : State), s.running = true → s.StepsTo (owner f s)) (code : Byte)
    (total : Nat) (p : Period) (s : State) : s.StepsTo (s.takeRequest code total owner p) := by
  have hself := State.StepsTo.refl s
  refine takeRequest_cases hself ⟨rfl, hself.cal, hself.chans, id, hself.keying⟩ ⟨rfl, hself.cal, hself.chans, id, hself.keying⟩
    ⟨rfl, hself.cal, hself.chans, id, hself.keying⟩ fun hl _ => (h p.fields (s.handed p) hl.1).of_handed

theorem takeRequest_evolves {owner : List Byte → State → State} (h : ∀ f (s : State), s.Evolves (owner f s)) (code : Byte)
    (total : Nat) (p : Period) (s : State) : s.StepsTo (s.takeRequest code total owner p) :=
  takeRequest_stepsTo (fun f s hr => (h f s).stepsTo hr) code total p s

theorem whenRunning_stepsTo {f : State → State} (h : ∀ s : State, s.Evolves (f s)) (d : Nat) (s : State) : s.StepsTo (s.whenRunning d f) := by
  cases hr : s.running with
  | false => rw [whenRunning_stopped hr]; exact .refl s
  | true => rw [whenRunning_running hr]; exact ((State.Evolves.elapse d s).trans (h _)).stepsTo hr

/-! ### Requests without a calendar effect -/

theorem ownReadStatus_evolves (f : List Byte) (s : State) : s.Evolves (ownReadStatus f s) := by
  fun_cases ownReadStatus <;> exact .answer _ _ _ _

theorem ownClearAttention_evolves (f : List Byte) (s : State) : s.Evolves (ownClearAttention f s) := by
  fun_cases ownClearAttention
  case case1 => exact .rest rfl fun r => by cases r <;> rfl
  all_goals exact .refuse _ _ _

theorem ownSetAttentionEnables_evolves (f : List Byte) (s : State) : s.Evolves (ownSetAttentionEnables f s) := by
  fun_cases ownSetAttentionEnables
  case case1 => exact .rest rfl fun r => by cases r <;> rfl
  all_goals exact .refuse _ _ _

theorem ownReadTime_evolves (f : List Byte) (s : State) : s.Evolves (ownReadTime f s) := by
  fun_cases ownReadTime
  case case1 => exact .rest rfl fun r => by cases r <;> rfl
  all_goals exact .refuse _ _ _

theorem ownSetTime_evolves (f : List Byte) (s : State) : s.Evolves (ownSetTime f s) := by
  have hfree : s.Evolves { s with tb := { s.tb with state := .free } } := .setTb _ s
  fun_cases ownSetTime
  case case3 => exact (hfree.trans (place_evolves _ _)).trans (.answer _ _ _ _)
  all_goals exact .refuse _ _ _

theorem ownAdoptReference_evolves (f : List Byte) (s : State) : s.Evolves (ownAdoptReference f s) := by
  fun_cases ownAdoptReference
  case case4 => exact .setLink _ s
  all_goals exact .refuse _ _ _

theorem ownReadReference_evolves (f : List Byte) (s : State) : s.Evolves (ownReadReference f s) := by
  fun_cases ownReadReference <;> exact .answer _ _ _ _

theorem setProfile_evolves (i : Fin 4) (p : Profile) (s : State) : s.Evolves (s.setProfile i p) := .rest rfl fun r => by cases r <;> rfl

theorem ownDefineProfile_evolves (f : List Byte) (s : State) : s.Evolves (ownDefineProfile f s) := by
  fun_cases ownDefineProfile
  case case2 => exact (setProfile_evolves _ _ s).trans (.answer _ _ _ _)
  all_goals exact .refuse _ _ _

theorem ownClearProfile_evolves (f : List Byte) (s : State) : s.Evolves (ownClearProfile f s) := by
  fun_cases ownClearProfile
  case case2 => exact (setProfile_evolves _ _ s).trans (.answer _ _ _ _)
  all_goals exact .refuse _ _ _

theorem ownReadProfile_evolves (f : List Byte) (s : State) : s.Evolves (ownReadProfile f s) := by
  fun_cases ownReadProfile <;> exact .answer _ _ _ _

theorem ownReadChange_evolves (f : List Byte) (s : State) : s.Evolves (ownReadChange f s) := by
  fun_cases ownReadChange <;> exact .answer _ _ _ _

theorem ownFindChange_evolves (f : List Byte) (s : State) : s.Evolves (ownFindChange f s) := by
  fun_cases ownFindChange <;> exact .answer _ _ _ _

theorem ownMeasureDelay_evolves (f : List Byte) (s : State) : s.Evolves (ownMeasureDelay f s) := by
  fun_cases ownMeasureDelay
  case case2 => exact .rest rfl fun r => by cases r <;> rfl
  all_goals exact .refuse _ _ _

theorem ownReadMeasurement_evolves (f : List Byte) (s : State) : s.Evolves (ownReadMeasurement f s) := by
  fun_cases ownReadMeasurement <;> exact .answer _ _ _ _

/-! ### Channel requests -/

theorem ownChannel_evolves {act : Fin 4 → State → State} (h : ∀ n (s : State), s.Evolves (act n s)) (code : Byte) (f : List Byte) (s : State) :
    s.Evolves (ownChannel code act f s) := by
  fun_cases ownChannel
  case case1 => exact h _ s
  all_goals exact .refuse _ _ _

theorem carrierOnEvent_evolves {n : Fin 4} {s : State} (h : (s.chan n).history.length < 4) : s.Evolves (s.carrierOnEvent n) :=
  .modifyChan (Channel.Becomes.carrierOn _ h).reaches

theorem ownCarrierOn_evolves (n : Fin 4) (s : State) : s.Evolves (ownCarrierOn n s) := by
  fun_cases ownCarrierOn with
  | case3 _ hspent =>
    have hbudget : ((s.moveChannel n .carrier).chan n).history.length < 4 := by
      rw [moveChannel_chan_same, Channel.moved_history]
      exact Channel.not_spent_iff.mp (by simpa using hspent)
    exact ((moveChannel_evolves (Channel.moved_reaches (by simp) (by simp) _)).trans (carrierOnEvent_evolves hbudget)).trans (.answer _ _ _ _)
  | _ => exact .refuse _ _ _

theorem ownGoOnAir_evolves (n : Fin 4) (s : State) : s.Evolves (ownGoOnAir n s) := by
  fun_cases ownGoOnAir
  case case3 => exact (moveChannel_evolves (Channel.moved_reaches (by simp) (by simp) _)).trans (.answer _ _ _ _)
  all_goals exact .refuse _ _ _

/-- HOLD on a channel in CUED, QUIET or RESUMING (R151). -/
theorem holdAtOnce_evolves (n : Fin 4) (s : State) : s.Evolves ((s.moveChannel n (.held .host)).modifyChan n fun c =>
    { c.undecided with heldSince := some s.ret.runSeconds }) := by
  refine .channels (by rw [moveChannel_frame]; rfl) (.at (n := n) (d := { ((s.chan n).moved (.held .host)).undecided with
    heldSince := some s.ret.runSeconds }) (fun m => ?_) ?_)
  · rw [State.chan_modifyChan, moveChannel_chan, moveChannel_chan, if_pos rfl]
    by_cases hm : m = n <;> simp [hm]
  · exact (Channel.heldByHost_reaches s.ret.runSeconds (s.chan n)).tail (.plain _ rfl)

theorem ownHold_evolves (n : Fin 4) (s : State) : s.Evolves (ownHold n s) := by
  have hpending : s.Evolves (s.modifyChan n fun c => { c.undecided with holdPending := true }) :=
    .modifyChan (Channel.Becomes.plain _ rfl).reaches
  fun_cases ownHold
  case case2 => exact hpending.trans (.answer _ _ _ _)
  case case3 => exact (holdAtOnce_evolves n s).trans (.answer _ _ _ _)
  case case4 => exact (holdAtOnce_evolves n s).trans (.answer _ _ _ _)
  case case5 => exact (holdAtOnce_evolves n s).trans (.answer _ _ _ _)
  all_goals exact .refuse _ _ _

theorem ownResume_evolves (n : Fin 4) (s : State) : s.Evolves (ownResume n s) := by
  fun_cases ownResume with
  | case4 hs _ hspent =>
    exact (startResuming_evolves (by rw [hs]; simp) (Channel.not_spent_iff.mp (by simpa using hspent))).trans (.answer _ _ _ _)
  | _ => exact .refuse _ _ _

theorem ownCarrierOff_evolves (n : Fin 4) (s : State) : s.Evolves (ownCarrierOff n s) := by
  have hclear : s.Evolves (s.modifyChan n fun c => { c.undecided with onAir := none }) :=
    .modifyChan (Channel.Becomes.plain _ rfl).reaches
  fun_cases ownCarrierOff
  case case2 => exact (hclear.trans (moveChannel_evolves (Channel.moved_reaches (by simp) (by simp) _))).trans (.answer _ _ _ _)
  all_goals exact .refuse _ _ _

theorem ownClearFault_evolves (n : Fin 4) (s : State) : s.Evolves (ownClearFault n s) := by
  fun_cases ownClearFault
  case case3 => exact (moveChannel_evolves (Channel.moved_reaches (by simp) (by simp) _)).trans (.answer _ _ _ _)
  all_goals exact .refuse _ _ _

theorem ownReadChannel_evolves (n : Fin 4) (s : State) : s.Evolves (ownReadChannel n s) := .answer _ _ _ _

theorem ownConfigureChannel_evolves (f : List Byte) (s : State) : s.Evolves (ownConfigureChannel f s) := by
  fun_cases ownConfigureChannel with
  | case4 b rest n cfg hcfg =>
    exact (State.Evolves.modifyChan (Channel.configure_reaches (channelConfig?_legal hcfg) _ _)).trans (.answer _ _ _ _)
  | _ => exact .refuse _ _ _

end Sys2Proof.Machine
end

section
/-! Every command as a step of the part: the requests to the calendar and to the references, the supplies and the starts, and what every step keeps. -/

namespace Sys2Proof.Machine

/-! ### Requests to the references and to the calendar -/

theorem State.StepsTo.then_answer {s t : State} (h : s.StepsTo t) (code : Byte) (r : Result) (f : List Byte) : s.StepsTo (t.answer code r f) :=
  ⟨h.pending, h.cal, h.chans, h.mon, h.keying⟩

theorem RefRecord.configure_priority (enabled : Bool) (polarity : Edge) (priority : Nat) (x : RefRecord) :
    (x.configure enabled polarity priority).priority = priority := by
  fun_cases RefRecord.configure <;> rfl

/-- The priority written and the one that remains are 1 and 2 (R19). -/
theorem remaining_priority {r : Ref} {x y : RefRecord} {p : Nat} (hp : 1 ≤ p ∧ p ≤ 2) (hx : x.priority = p) (hy : y.priority = 3 - p)
    (s : State) : ((s.setRef r x).setRef (otherRef r) y).mon.sound := by
  have hcases : p = 1 ∨ p = 2 := by omega
  unfold Monitor.sound
  rcases hcases with rfl | rfl <;> cases r <;> simp [State.setRef, otherRef, hx, hy]

/-- The references with the named one configured, the other given the priority that remains, and the shared flag written (R19, R20). -/
def State.withReference (r : Ref) (enabled : Bool) (polarity : Edge) (priority : Nat) (revertive : Bool) (s : State) : State :=
  let t := (s.setRef r ((s.ref r).configure enabled polarity priority)).setRef (otherRef r) { s.ref (otherRef r) with priority := 3 - priority }
  { t with mon := { t.mon with revertive := revertive } }

/-- The references as configured, with REFERENCE CHANGED raised for a change of state (R20). -/
def State.withReferenceRaised (r : Ref) (enabled : Bool) (polarity : Edge) (priority : Nat) (revertive : Bool) (s : State) : State :=
  if ((s.ref r).configure enabled polarity priority).state = (s.ref r).state then s.withReference r enabled polarity priority revertive
  else (s.withReference r enabled polarity priority revertive).raise .referenceChanged

theorem withReference_frame (r : Ref) (enabled : Bool) (polarity : Edge) (priority : Nat) (revertive : Bool) (s : State) :
    s.withReference r enabled polarity priority revertive =
      { s with mon := (s.withReference r enabled polarity priority revertive).mon } := by
  cases r <;> rfl

theorem withReferenceRaised_stepsTo (r : Ref) (enabled : Bool) (polarity : Edge) {priority : Nat} (hp : 1 ≤ priority ∧ priority ≤ 2)
    (revertive : Bool) (s : State) : s.StepsTo (s.withReferenceRaised r enabled polarity priority revertive) := by
  have hself := State.StepsTo.refl s
  have hset : s.StepsTo (s.withReference r enabled polarity priority revertive) := by
    have hmon : (s.withReference r enabled polarity priority revertive).mon.sound :=
      remaining_priority (r := r) (s := s) hp (RefRecord.configure_priority enabled polarity priority (s.ref r)) rfl
    have hframe := withReference_frame r enabled polarity priority revertive s
    generalize s.withReference r enabled polarity priority revertive = t at hframe hmon ⊢
    rw [hframe]
    rw [hframe] at hmon
    exact ⟨hself.pending, hself.cal, hself.chans, fun _ => hmon, hself.keying⟩
  unfold State.withReferenceRaised
  split
  · exact hset
  · exact ⟨hset.pending, hset.cal, hset.chans, hset.mon, hset.keying⟩

theorem ownConfigureReference_stepsTo (f : List Byte) {s : State} (hr : s.running = true) : s.StepsTo (ownConfigureReference f s) := by
  fun_cases ownConfigureReference with
  | case1 _ _ _ _ r enabled polarity priority revertive _ hp =>
    obtain ⟨hrange, rfl⟩ := inRange?_eq_some_iff.mp hp
    exact State.StepsTo.then_answer (withReferenceRaised_stepsTo r enabled polarity hrange revertive s) _ _ _
  | _ => exact (State.Evolves.refuse _ _ s).stepsTo hr

/-- Whatever a request does to the calendar and to the arbiters. -/
theorem State.calendarOnly.stepsTo {s t : State} (h : s.calendarOnly t) (hr : s.running = true) (hcal : s.cal.StepsTo t.cal)
    (hchans : s.ChansReach t) : s.StepsTo t := by
  have hrun : t.running = true := h.blocks.running.trans hr
  exact ⟨by rw [h], hcal, hchans, by rw [h]; exact id, .inl hrun⟩

theorem addEntry_stepsTo (t : Terms) (level : Nat) (auto : Bool) {s : State} (hr : s.running = true) (hlen : s.cal.entries.length < 32) :
    s.StepsTo (s.addEntry t level auto) := by
  have hself := State.StepsTo.refl s
  have hcal : s.cal.StepsTo (s.addEntry t level auto).cal := by
    have hadd : (s.addEntry t level auto).cal = { s.cal with
        entries := insertEntry (newEntry (freeIdent s.cal.entries 33 s.cal.nextIdent) t level auto) s.cal.entries
        nextIdent := identAfter (freeIdent s.cal.entries 33 s.cal.nextIdent) } := by
      unfold State.addEntry; dsimp only; split <;> rfl
    rw [hadd]
    refine ⟨fun hc => ?_, fun hc hfit x hx => ?_, fun hc e he hl x hx hi => ?_⟩
    · obtain ⟨j, hj, -, hfree⟩ := freeIdent_free hc.holds.length hc.holds.next
      rw [hj]
      refine hc.insert (List.Sublist.refl _) hlen hfree (identFrom_range _ _) (fun i => ?_) (identAfter_range (identFrom_range _ _))
      rw [hc.holds.mem_ring]
      simp only [mem_insertEntry]
      constructor
      · rintro ⟨x, hx, hi, hin⟩
        exact ⟨x, .inr hx, hi, hin⟩
      · rintro ⟨x, rfl | hx, hi, hin⟩
        · cases hin
        · exact ⟨x, hx, hi, hin⟩
    · rcases mem_insertEntry.mp hx with rfl | hx
      · exact ⟨fun _ => rfl, by simp [newEntry], by simp [newEntry]⟩
      · exact hfit x hx
    · obtain ⟨j, hj, -, hfree⟩ := freeIdent_free hc.holds.length hc.holds.next
      rcases mem_insertEntry.mp hx with rfl | hx
      · exact absurd (hi.symm.trans hj) (hfree e he)
      · obtain rfl := entry_eq_of_ident hc.holds.idents hx he hi
        exact ⟨rfl, rfl, rfl, hl⟩
  have hrest : (s.addEntry t level auto).pending = s.pending ∧ (s.addEntry t level auto).chans = s.chans ∧
      (s.addEntry t level auto).mon = s.mon ∧ (s.addEntry t level auto).running = s.running := by
    unfold State.addEntry; dsimp only; split <;> exact ⟨rfl, rfl, rfl, rfl⟩
  obtain ⟨hpending, hchans, hmon, hrun⟩ := hrest
  exact ⟨hpending, hcal, .of_eq hchans, by rw [hmon]; exact id, .inl (hrun.trans hr)⟩

theorem ownEnterChange_stepsTo (f : List Byte) {s : State} (hr : s.running = true) : s.StepsTo (ownEnterChange f s) := by
  fun_cases ownEnterChange with
  | case4 k rest _ _ _ _ _ _ _ _ _ _ _ hlen => exact addEntry_stepsTo _ _ _ hr (Nat.not_le.mp hlen)
  | _ => exact (State.Evolves.refuse _ _ s).stepsTo hr

theorem openChange_some {s : State} {hi lo : Byte} {e : Entry} (h : s.openChange hi lo = some e) :
    e ∈ s.cal.entries ∧ e.ident = word16 hi lo ∧ e.state ≠ .withdrawn := by
  unfold State.openChange at h
  split at h
  · next f hf =>
    split at h
    · cases h
    · next hw =>
      cases h
      obtain ⟨hmem, hi⟩ := findEntry_mem hf
      exact ⟨hmem, hi, hw⟩
  · cases h

/-- A change of an entry that carries it on, on the same side of the ring. -/
theorem modifyEntry_stepsTo {s : State} {e : Entry} {f : Entry → Entry} (hr : s.running = true) (he : e ∈ s.cal.entries)
    (hf : e.Carries (f e)) (hin : (f e).state = e.state) : s.StepsTo (s.modifyEntry e.ident f) := by
  have hcal : s.cal.CarriesTo (s.modifyEntry e.ident f).cal := by
    intro hc
    rw [modifyEntry_cal_put hc he (by rw [hin])]
    exact Calendar.carriesTo_put he (fun x hx => by cases hx; exact hf) hc
  exact (modifyEntry_calendarOnly _ _ s).stepsTo hr hcal.stepsTo (.of_eq rfl)

theorem amendLevel_stepsTo {s : State} {e : Entry} (hr : s.running = true) (he : e ∈ s.cal.entries) (level : Option Nat) (auto : Option Bool) :
    s.StepsTo (s.amendLevel e level auto) := by
  fun_cases State.amendLevel with
  | case1 level auto =>
    exact State.StepsTo.then_answer (modifyEntry_stepsTo (f := fun e => { e with level := level, autoRetire := auto }) hr he
      ⟨rfl, rfl, rfl, rfl, id, id⟩ rfl) _ _ _
  | _ => exact (State.Evolves.refuse _ _ s).stepsTo hr

/-- New terms for an unlocked entry (R90): the entry takes its new place, and no locked one is touched. -/
theorem replaceTerms_stepsTo {s : State} {e : Entry} (hr : s.running = true) (he : e ∈ s.cal.entries) (hl : e.locked = false) (t : Terms)
    (level : Nat) (auto : Bool) : s.StepsTo (s.replaceTerms e t level auto) := by
  have hmem : ∀ x, x ∈ (s.cal.entries.filter fun x => x.ident ≠ e.ident) ↔ x ∈ s.cal.entries ∧ x.ident ≠ e.ident := by simp
  have hcal : s.cal.StepsTo (s.replaceTerms e t level auto).cal := by
    refine ⟨fun hc => ?_, fun hc hfit x hx => ?_, fun hc a ha hal x hx hi => ?_⟩
    · have hshort : (s.cal.entries.filter fun x => x.ident ≠ e.ident).length < s.cal.entries.length :=
        List.length_filter_lt_length_iff_exists.mpr ⟨e, he, by simp⟩
      refine hc.insert List.filter_sublist (hshort.trans_le hc.holds.length) (fun f hf => ((hmem f).mp hf).2) (hc.holds.range e he)
        (fun i => ?_) hc.holds.next
      rw [hc.holds.mem_ring]
      simp only [mem_insertEntry, hmem]
      constructor
      · rintro ⟨x, hx, hi, hin⟩
        by_cases hxe : x.ident = e.ident
        · obtain rfl := entry_eq_of_ident hc.holds.idents hx he hxe
          exact ⟨_, .inl rfl, hi, hin⟩
        · exact ⟨x, .inr ⟨hx, hxe⟩, hi, hin⟩
      · rintro ⟨x, rfl | ⟨hx, -⟩, hi, hin⟩
        · exact ⟨e, he, hi, hin⟩
        · exact ⟨x, hx, hi, hin⟩
    · rcases mem_insertEntry.mp hx with rfl | hx
      · obtain ⟨hlock, hout, -⟩ := hfit e he
        exact ⟨hlock, hout, fun hin => by rw [hlock hl] at hin; cases hin⟩
      · exact hfit x ((hmem x).mp hx).1
    · rcases mem_insertEntry.mp hx with rfl | hx
      · obtain rfl := entry_eq_of_ident hc.holds.idents he ha hi
        rw [hl] at hal; cases hal
      · obtain rfl := entry_eq_of_ident hc.holds.idents ((hmem x).mp hx).1 ha hi
        exact ⟨rfl, rfl, rfl, hal⟩
  exact ⟨rfl, hcal, .of_eq rfl, id, .inl hr⟩

theorem amendTerms_stepsTo {s : State} {e : Entry} (hr : s.running = true) (he : e ∈ s.cal.entries) (t : Option Terms) (level : Option Nat)
    (auto : Option Bool) : s.StepsTo (s.amendTerms e t level auto) := by
  fun_cases State.amendTerms with
  | case3 hl => exact State.StepsTo.then_answer (replaceTerms_stepsTo hr he (by simpa using hl) _ _ _) _ _ _
  | _ => exact (State.Evolves.refuse _ _ s).stepsTo hr

theorem ownAmendChange_stepsTo (f : List Byte) {s : State} (hr : s.running = true) : s.StepsTo (ownAmendChange f s) := by
  fun_cases ownAmendChange with
  | case4 _ _ _ _ _ e he => exact amendLevel_stepsTo hr (openChange_some he).1 _ _
  | case5 _ _ _ _ _ e he => exact amendTerms_stepsTo hr (openChange_some he).1 _ _ _
  | _ => exact (State.Evolves.refuse _ _ s).stepsTo hr

theorem removeEntry_stepsTo {s : State} (hr : s.running = true) (i : Nat) : s.StepsTo (s.removeEntry i) :=
  (removeEntry_calendarOnly i s).stepsTo hr (removeEntry_carriesTo i s).stepsTo (removeEntry_chansReach i s)

/-- An ANNOUNCING entry withdrawn (R91). -/
theorem withdrawn_stepsTo {s : State} {e : Entry} (hr : s.running = true) (he : e ∈ s.cal.entries) (hs : e.state = .announcing) :
    s.StepsTo ((s.leaveRing e.ident).modifyEntry e.ident fun e => { e with state := .withdrawn }) := by
  have hcarries : e.Carries { e with state := .withdrawn } :=
    ⟨rfl, rfl, rfl, rfl, id, fun ⟨hlock, hout, _⟩ => ⟨fun hl => absurd (hlock hl) (by simp [hs]), by simpa [hs] using hout, by simp⟩⟩
  have hcal : s.cal.CarriesTo ((s.leaveRing e.ident).modifyEntry e.ident fun e => { e with state := .withdrawn }).cal := by
    intro hc
    rw [leaveRing_modifyEntry_cal (f := fun e => { e with state := .withdrawn }) hc he rfl]
    exact Calendar.carriesTo_put he (fun x hx => by cases hx; exact hcarries) hc
  exact ((leaveRing_calendarOnly _ s).trans (modifyEntry_calendarOnly _ _ _)).stepsTo hr hcal.stepsTo
    ((leaveRing_chansReach e.ident s).trans (.of_eq rfl))

theorem ownWithdrawChange_stepsTo (f : List Byte) {s : State} (hr : s.running = true) : s.StepsTo (ownWithdrawChange f s) := by
  fun_cases ownWithdrawChange with
  | case2 => exact State.StepsTo.then_answer (removeEntry_stepsTo hr _) _ _ _
  | case3 _ _ e he hs => exact State.StepsTo.then_answer (withdrawn_stepsTo hr (openChange_some he).1 hs) _ _ _
  | _ => exact (State.Evolves.refuse _ _ s).stepsTo hr

/-- An entry IN EFFECT cut short and its channels released (R92, R93). -/
theorem cutShort_stepsTo {s : State} {e : Entry} (hr : s.running = true) (he : e ∈ s.cal.entries) (hs : e.state = .inEffect) :
    s.StepsTo ((s.finishEntry e .cutShort).release e.ident) := by
  have hcal : s.cal.CarriesTo ((s.finishEntry e .cutShort).release e.ident).cal := by
    intro hc
    rw [release_cal, finishEntry_cal hc he]
    exact Calendar.carriesTo_put he (fun x hx => Entry.finished_carries (by simp [hs]) hx) hc
  exact ((finishEntry_calendarOnly e _ s).trans (release_calendarOnly _ _)).stepsTo hr hcal.stepsTo
    ((finishEntry_chansReach e _ s).trans (release_chansReach _ _))

theorem ownRetireChange_stepsTo (f : List Byte) {s : State} (hr : s.running = true) : s.StepsTo (ownRetireChange f s) := by
  fun_cases ownRetireChange with
  | case2 => exact State.StepsTo.then_answer (removeEntry_stepsTo hr _) _ _ _
  | case3 _ _ e he hs => exact State.StepsTo.then_answer (cutShort_stepsTo hr (openChange_some he).1 hs) _ _ _
  | _ => exact (State.Evolves.refuse _ _ s).stepsTo hr

/-! ### Supplies and starts -/

theorem Channel.restarted_reaches (kind : Option StartKind) (now : RunSec) (c : Channel) : c.Reaches (c.restarted kind now) := by
  unfold Channel.restarted
  refine (Channel.Becomes.start _ _ _ _ id ?_).reaches
  split
  · exact List.length_filter_le _ _
  · exact le_rfl

@[simp] theorem restarted_chan (kind : Option StartKind) (n : Fin 4) (s : State) :
    (s.restarted kind).chan n = (s.chan n).restarted kind s.ret.runSeconds := Four.get_map _ _ _

theorem restarted_chansReach (kind : Option StartKind) (s : State) : s.ChansReach (s.restarted kind) :=
  .map rfl (Channel.restarted_reaches kind s.ret.runSeconds)

theorem lossMoment_pending (fraction : Ticks) (s : State) : (s.lossMoment fraction).pending = s.pending := by
  unfold State.lossMoment; split <;> rfl

theorem lossMoment_cal (fraction : Ticks) (s : State) : (s.lossMoment fraction).cal = s.cal := by
  unfold State.lossMoment; split <;> rfl

theorem lossMoment_priority (fraction : Ticks) (r : Ref) (s : State) : ((s.lossMoment fraction).ref r).priority = (s.ref r).priority := by
  unfold State.lossMoment; split <;> cases r <;> rfl

theorem lossMoment_chansReach (fraction : Ticks) (s : State) : s.ChansReach (s.lossMoment fraction) := by
  unfold State.lossMoment
  split
  · exact State.ChansReach.trans (.of_eq rfl) (restarted_chansReach none _)
  · exact .refl s

/-- A loss moment leaves nothing keyed (R179). -/
theorem lossMoment_released {s : State} (hr : s.running = true) (fraction : Ticks) (n : Fin 4) :
    ((s.lossMoment fraction).chan n).key = false ∧ ((s.lossMoment fraction).chan n).keyPlan = [] := by
  rw [State.lossMoment, if_pos hr, restarted_chan]
  exact ⟨rfl, rfl⟩

theorem lossMoment_stopped {s : State} (hr : s.running = false) (fraction : Ticks) : s.lossMoment fraction = s := by
  simp [State.lossMoment, hr]

theorem timePlaced_frame (century : Nat) (s : State) : s.timePlaced century =
    { s with tb := (s.timePlaced century).tb, ret := (s.timePlaced century).ret, chans := (s.timePlaced century).chans } := by
  unfold State.timePlaced
  split
  · rfl
  · split <;> rfl

theorem timePlaced_chansReach (century : Nat) (s : State) : s.ChansReach (s.timePlaced century) := by
  unfold State.timePlaced
  split
  · exact .refl s
  · split
    · exact (placeChannels_evolves _ s).chans
    · exact .of_eq rfl

theorem discontinuity_evolves (loss : Option UtcSecond) (s : State) : s.Evolves (s.discontinuity loss) := by
  have h := discontinuity_blocksOnly loss s
  have hmon : (s.discontinuity loss).mon = s.mon := by
    have hcal := (removeWithdrawn_calendarOnly s)
    have hfold : ∀ (l : List Nat) (t : State), (l.foldl (fun t i => t.procedureEntry loss i) t).mon = t.mon := fun l t =>
      foldl_keeps (g := State.mon) (fun t i => by rw [procedureEntry_frame]) l t
    exact (hfold _ _).trans (by rw [hcal])
  exact ⟨by rw [h], h.running, discontinuity_carriesTo loss s, discontinuity_chansReach loss s,
    fun r => congrArg RefRecord.priority (ref_congr hmon r)⟩

theorem timePlaced_evolves (century : Nat) (s : State) : s.Evolves (s.timePlaced century) :=
  ⟨by rw [timePlaced_frame], (timePlaced_blocksOnly _ s).running, .of_eq (by rw [timePlaced_frame]), timePlaced_chansReach _ s,
    fun r => congrArg RefRecord.priority (ref_congr (by rw [timePlaced_frame]) r)⟩

theorem started_evolves (s : State) : s.Evolves s.started := .rest rfl fun r => by cases r <;> rfl

theorem freeAt_evolves (u : UtcSecond) (phase : Nat) (s : State) : s.Evolves (s.freeAt u phase) := .rest rfl fun r => by cases r <;> rfl

theorem warmBase_evolves (fraction : Ticks) (s : State) : s.Evolves (s.warmBase fraction) :=
  ⟨rfl, rfl, .refl _, State.ChansReach.trans (.of_eq rfl) (restarted_chansReach _ _), fun r => by cases r <;> rfl⟩

theorem replacedTime_evolves (u : UtcSecond) (phase century : Nat) (loss : Option UtcSecond) (s : State) :
    s.Evolves (((s.freeAt u phase).discontinuity loss).timePlaced century).started :=
  (((freeAt_evolves u phase s).trans (discontinuity_evolves loss _)).trans (timePlaced_evolves century _)).trans (started_evolves _)

theorem withdrawnRemoved_evolves (s : State) : s.Evolves s.removeWithdrawn.started :=
  ((removeWithdrawn_calendarOnly s).evolves (removeWithdrawn_carriesTo s) (removeWithdrawn_chansReach s)).trans (started_evolves _)

/-- A warm start keeps the queue and the supplies, carries the calendar on, and leaves the channels as their blocks make them. -/
theorem warmStart_evolves (fraction : Ticks) (s : State) : s.Evolves (s.warmStart fraction) := by
  have hbase := warmBase_evolves fraction s
  fun_cases State.warmStart with
  | case1 b loss u phase _ => exact hbase.trans (replacedTime_evolves u phase _ (some loss) b)
  | case2 b _ => exact hbase.trans (withdrawnRemoved_evolves b)

/-- The calendar without entries (R184). -/
def Calendar.empty : Calendar := { entries := [], ring := [], nextIdent := 1 }

theorem Calendar.empty_sound : Calendar.empty.sound :=
  Calendar.sound_iff.mpr ⟨Nat.zero_le _, .nil, .nil, fun _ he => (List.not_mem_nil he).elim, .nil,
    fun _ => ⟨fun hi => (List.not_mem_nil hi).elim, fun ⟨_, he, _⟩ => (List.not_mem_nil he).elim⟩, by simp [Calendar.empty]⟩

theorem ChannelConfig.cold_legal : ChannelConfig.cold.legal := by
  simp [ChannelConfig.legal, ChannelConfig.cold]

theorem coldStart_chansReach (fraction : Ticks) (s : State) : s.ChansReach (s.coldStart fraction) :=
  .map (f := fun c => Channel.start ChannelConfig.cold [] c.faultLine.high c.monitorHigh) rfl fun c =>
    (Channel.Becomes.start ChannelConfig.cold [] c.faultLine.high c.monitorHigh (fun _ => ChannelConfig.cold_legal) (Nat.zero_le _)).reaches

/-- A cold start empties the calendar and sets every block to its cold values (R184). -/
theorem coldStart_stepsTo {s : State} (hr : s.running = true) (fraction : Ticks) : s.StepsTo (s.coldStart fraction) := by
  have hcal : (s.coldStart fraction).cal = .empty := rfl
  refine ⟨rfl, ?_, coldStart_chansReach fraction s, fun _ => .inl ⟨rfl, rfl⟩, .inl hr⟩
  rw [hcal]
  exact ⟨fun _ => Calendar.empty_sound, fun _ _ x hx => (List.not_mem_nil hx).elim, fun _ _ _ _ x hx => (List.not_mem_nil hx).elim⟩

theorem start_stepsTo {s : State} (hr : s.running = true) (fraction : Ticks) : s.StepsTo (s.start fraction) := by
  unfold State.start
  split
  · exact (warmStart_evolves fraction s).stepsTo hr
  · exact coldStart_stepsTo hr fraction

theorem powerUp_stepsTo (fraction : Ticks) (high : Bool) (s : State) : s.StepsTo (powerUp fraction high s) := by
  have hself := State.StepsTo.refl s
  unfold powerUp
  dsimp only
  split
  · exact hself
  · next hvdd =>
    split
    · next hreset =>
      have h := start_stepsTo (s := { s with vdd := true, fselPin := high }) (running_iff.mpr ⟨rfl, hreset⟩) fraction
      exact ⟨h.pending, h.cal, h.chans, h.mon, .inl ((start_running fraction _).trans (running_iff.mpr ⟨rfl, hreset⟩))⟩
    · next hreset =>
      refine ⟨hself.pending, hself.cal, hself.chans, id, .inr (.inr ⟨?_, fun _ => ⟨rfl, rfl⟩⟩)⟩
      simp [State.running, hvdd, hreset]

theorem resetNRelease_stepsTo (fraction : Ticks) (s : State) : s.StepsTo (resetNRelease fraction s) := by
  have hself := State.StepsTo.refl s
  unfold resetNRelease
  dsimp only
  split
  · exact hself
  · next hreset =>
    split
    · next hvdd =>
      have h := start_stepsTo (s := { s with resetN := true }) (running_iff.mpr ⟨hvdd, rfl⟩) fraction
      exact ⟨h.pending, h.cal, h.chans, h.mon, .inl ((start_running fraction _).trans (running_iff.mpr ⟨hvdd, rfl⟩))⟩
    · next hvdd =>
      refine ⟨hself.pending, hself.cal, hself.chans, id, .inr (.inr ⟨?_, fun _ => ⟨rfl, rfl⟩⟩)⟩
      simp [State.running, hvdd, hreset]

/-- A loss moment with what its event does to the supplies after it: nothing is keyed then, or the part was stopped before. -/
theorem lossMoment_stepsTo (fraction : Ticks) {s t : State} (hs : t = { s.lossMoment fraction with
    vdd := t.vdd, resetN := t.resetN, vbatGood := t.vbatGood, ret := t.ret }) (hrun : t.running = false) : s.StepsTo t := by
  have hchan : ∀ n, t.chan n = (s.lossMoment fraction).chan n := fun n => by rw [hs]; rfl
  have hpriority : ∀ r, (t.ref r).priority = (s.ref r).priority := fun r => by
    rw [← lossMoment_priority fraction r s]
    exact congrArg RefRecord.priority (ref_congr (by rw [hs]) r)
  refine ⟨?_, Calendar.CarriesTo.stepsTo (.of_eq ?_), fun n => ?_, Monitor.sound_of_priority hpriority, ?_⟩
  · rw [hs]; exact lossMoment_pending fraction s
  · rw [hs]; exact lossMoment_cal fraction s
  · rw [hchan]; exact lossMoment_chansReach fraction s n
  · cases hr : s.running with
    | true => exact .inr (.inl fun n => by rw [hchan]; exact lossMoment_released hr fraction n)
    | false => exact .inr (.inr ⟨hrun, fun n => by rw [hchan, lossMoment_stopped hr]; exact ⟨rfl, rfl⟩⟩)

theorem State.StepsTo.of_elapse {d : Nat} {s t : State} (h : (s.whenRunning d id).StepsTo t) : s.StepsTo t := by
  unfold State.whenRunning at h
  split at h
  · exact ⟨h.pending, h.cal, h.chans, h.mon, h.keying⟩
  · exact h

theorem vddLoss_stepsTo (fraction : Ticks) (good : Bool) (s : State) : s.StepsTo (vddLoss fraction good s) := by
  unfold vddLoss
  split
  · exact lossMoment_stepsTo fraction rfl rfl
  · exact .refl s

theorem resetNLow_stepsTo (fraction : Ticks) (s : State) : s.StepsTo (resetNLow fraction s) := by
  unfold resetNLow
  split
  · exact lossMoment_stepsTo fraction rfl (Bool.and_false _)
  · exact .refl s

theorem ownResetPart_stepsTo (fraction : Ticks) (f : List Byte) {s : State} (hr : s.running = true) : s.StepsTo (ownResetPart fraction f s) := by
  fun_cases ownResetPart with
  | case1 =>
    have hloss : s.Evolves ((s.answer 0x04 .done []).lossMoment fraction) :=
      ⟨lossMoment_pending _ _, lossMoment_running _ _, .of_eq (lossMoment_cal _ _), lossMoment_chansReach fraction (s.answer 0x04 .done []),
        fun r => (lossMoment_priority fraction r (s.answer 0x04 .done [])).trans (congrArg RefRecord.priority (ref_congr rfl r))⟩
    exact (hloss.trans (warmStart_evolves fraction _)).stepsTo hr
  | _ => exact (State.Evolves.refuse _ _ s).stepsTo hr

/-! ### Every command -/

theorem takeUnknown_stepsTo (code : Byte) (p : Period) (s : State) : s.StepsTo (s.takeUnknown code p) :=
  takeRequest_evolves (fun _ t => .refuse code .unknownRequest t) code _ _ s

theorem replyRead_evolves (n : Nat) (stale : Bool) (s : State) : s.Evolves (replyRead n stale s) := by
  unfold replyRead
  split
  · exact .refl s
  · dsimp only
    split <;> exact .rest rfl fun r => by cases r <;> rfl

theorem requestCompletion_evolves (s : State) : s.Evolves (requestCompletion s) := by
  unfold requestCompletion
  split
  · exact .setLink _ s
  all_goals exact .refl s

theorem runSecond_stepsTo (d : Nat) (s : State) : s.StepsTo (runSecond (s.whenRunning d id)) := by
  refine State.StepsTo.of_elapse (d := d) ?_
  have hself := State.StepsTo.refl (s.whenRunning d id)
  unfold runSecond
  split
  · exact ⟨hself.pending, hself.cal, hself.chans, id, hself.keying⟩
  · exact hself

theorem vbatLow_stepsTo (s : State) : s.StepsTo (vbatLow s) :=
  have hself := State.StepsTo.refl s
  ⟨hself.pending, hself.cal, hself.chans, id, hself.keying⟩

theorem monitorEdge_stepsTo (d : Nat) (n : Fin 4) (edge : Edge) (s : State) :
    s.StepsTo (if s.running then monitorEdge n edge (s.elapse d) else monitorLevel n edge s) := by
  split
  · next hr => exact ((State.Evolves.elapse d s).trans (monitorEdge_evolves n edge _)).stepsTo hr
  · have h := monitorLevel_evolves n edge s
    refine ⟨h.pending, h.cal.stepsTo, h.chans, Monitor.sound_of_priority h.priority, .inr (.inr ⟨h.running, fun m => ?_⟩)⟩
    unfold monitorLevel
    rw [State.chan_setChan]
    split
    · next hm => rw [hm]; exact ⟨rfl, rfl⟩
    · exact ⟨rfl, rfl⟩

/-- Every well-formed command answers a next state, which its step leads to. -/
theorem exec_stepsTo (c : Instr) (s : State) (hw : c.wellFormed = true) : ∃ t, exec c s = .next t ∧ s.StepsTo t := by
  cases c with
  | readStatus => exact ⟨_, rfl, takeRequest_evolves ownReadStatus_evolves _ _ _ _⟩
  | clearAttention => exact ⟨_, rfl, takeRequest_evolves ownClearAttention_evolves _ _ _ _⟩
  | setAttentionEnables => exact ⟨_, rfl, takeRequest_evolves ownSetAttentionEnables_evolves _ _ _ _⟩
  | resetPart => exact ⟨_, rfl, takeRequest_stepsTo (fun f _ hr => ownResetPart_stepsTo _ f hr) _ _ _ _⟩
  | readTime => exact ⟨_, rfl, takeRequest_evolves ownReadTime_evolves _ _ _ _⟩
  | setTime => exact ⟨_, rfl, takeRequest_evolves ownSetTime_evolves _ _ _ _⟩
  | adoptReference => exact ⟨_, rfl, takeRequest_evolves ownAdoptReference_evolves _ _ _ _⟩
  | configureReference => exact ⟨_, rfl, takeRequest_stepsTo (fun f _ hr => ownConfigureReference_stepsTo f hr) _ _ _ _⟩
  | readReference => exact ⟨_, rfl, takeRequest_evolves ownReadReference_evolves _ _ _ _⟩
  | defineProfile => exact ⟨_, rfl, takeRequest_evolves ownDefineProfile_evolves _ _ _ _⟩
  | clearProfile => exact ⟨_, rfl, takeRequest_evolves ownClearProfile_evolves _ _ _ _⟩
  | readProfile => exact ⟨_, rfl, takeRequest_evolves ownReadProfile_evolves _ _ _ _⟩
  | enterChange => exact ⟨_, rfl, takeRequest_stepsTo (fun f _ hr => ownEnterChange_stepsTo f hr) _ _ _ _⟩
  | amendChange => exact ⟨_, rfl, takeRequest_stepsTo (fun f _ hr => ownAmendChange_stepsTo f hr) _ _ _ _⟩
  | withdrawChange => exact ⟨_, rfl, takeRequest_stepsTo (fun f _ hr => ownWithdrawChange_stepsTo f hr) _ _ _ _⟩
  | retireChange => exact ⟨_, rfl, takeRequest_stepsTo (fun f _ hr => ownRetireChange_stepsTo f hr) _ _ _ _⟩
  | readChange => exact ⟨_, rfl, takeRequest_evolves ownReadChange_evolves _ _ _ _⟩
  | findChange => exact ⟨_, rfl, takeRequest_evolves ownFindChange_evolves _ _ _ _⟩
  | configureChannel => exact ⟨_, rfl, takeRequest_evolves ownConfigureChannel_evolves _ _ _ _⟩
  | carrierOn => exact ⟨_, rfl, takeRequest_evolves (ownChannel_evolves ownCarrierOn_evolves _) _ _ _ _⟩
  | goOnAir => exact ⟨_, rfl, takeRequest_evolves (ownChannel_evolves ownGoOnAir_evolves _) _ _ _ _⟩
  | hold => exact ⟨_, rfl, takeRequest_evolves (ownChannel_evolves ownHold_evolves _) _ _ _ _⟩
  | resume => exact ⟨_, rfl, takeRequest_evolves (ownChannel_evolves ownResume_evolves _) _ _ _ _⟩
  | carrierOff => exact ⟨_, rfl, takeRequest_evolves (ownChannel_evolves ownCarrierOff_evolves _) _ _ _ _⟩
  | clearFault => exact ⟨_, rfl, takeRequest_evolves (ownChannel_evolves ownClearFault_evolves _) _ _ _ _⟩
  | readChannel => exact ⟨_, rfl, takeRequest_evolves (ownChannel_evolves ownReadChannel_evolves _) _ _ _ _⟩
  | measureDelay => exact ⟨_, rfl, takeRequest_evolves ownMeasureDelay_evolves _ _ _ _⟩
  | readMeasurement => exact ⟨_, rfl, takeRequest_evolves ownReadMeasurement_evolves _ _ _ _⟩
  | unknownRequest => exact ⟨_, if_pos hw, takeUnknown_stepsTo _ _ _⟩
  | replyRead => exact ⟨_, rfl, whenRunning_stepsTo (replyRead_evolves _ _) _ _⟩
  | requestCompletion => exact ⟨_, rfl, whenRunning_stepsTo requestCompletion_evolves _ _⟩
  | stationSecond => exact ⟨_, rfl, whenRunning_stepsTo stationSecond_evolves _ _⟩
  | channelSecondStart => exact ⟨_, rfl, whenRunning_stepsTo (channelSecondStart_evolves _) _ _⟩
  | holdoverBandReached => exact ⟨_, rfl, whenRunning_stepsTo deriveGrade_evolves _ _⟩
  | runSecond => exact ⟨_, rfl, runSecond_stepsTo _ _⟩
  | historyTimeExpiry => exact ⟨_, rfl, whenRunning_stepsTo (historyTimeExpiry_evolves _) _ _⟩
  | referenceEdge => exact ⟨_, rfl, whenRunning_stepsTo (referenceEdge_evolves _ _ _) _ _⟩
  | noEdge => exact ⟨_, rfl, whenRunning_stepsTo (noEdge_evolves _) _ _⟩
  | referenceCharacter => exact ⟨_, rfl, whenRunning_stepsTo (referenceCharacter_evolves _ _ _ _) _ _⟩
  | lateMessage => exact ⟨_, rfl, whenRunning_stepsTo (lateMessage_evolves _) _ _⟩
  | faultActive => exact ⟨_, rfl, whenRunning_stepsTo (faultActive_evolves _ _) _ _⟩
  | faultInactive => exact ⟨_, rfl, whenRunning_stepsTo (faultInactive_evolves _ _) _ _⟩
  | sampleWindowClose => exact ⟨_, rfl, whenRunning_stepsTo sampleWindowClose_evolves _ _⟩
  | vddLoss => exact ⟨_, rfl, (vddLoss_stepsTo _ _ _).of_elapse⟩
  | powerUp => exact ⟨_, rfl, powerUp_stepsTo _ _ _⟩
  | resetNLow => exact ⟨_, rfl, (resetNLow_stepsTo _ _).of_elapse⟩
  | resetNRelease => exact ⟨_, rfl, resetNRelease_stepsTo _ _⟩
  | vbatLow => exact ⟨_, rfl, vbatLow_stepsTo _⟩
  | keyingTimedChange => exact ⟨_, rfl, whenRunning_stepsTo (keyingTimedChange_evolves _) _ _⟩
  | monitorEdge => exact ⟨_, rfl, monitorEdge_stepsTo _ _ _ _⟩

/-- An ill-formed command is refused by name (log 27). -/
theorem exec_illFormed (c : Instr) (s : State) (hw : c.wellFormed = false) : exec c s = .refused .notTheUnknownRequest := by
  cases c with
  | unknownRequest code p => exact if_neg (by rw [Bool.not_eq_true]; exact hw)
  | _ => cases hw

theorem exec_next_stepsTo {c : Instr} {s t : State} (h : exec c s = .next t) : s.StepsTo t := by
  cases hw : c.wellFormed with
  | false => rw [exec_illFormed c s hw] at h; cases h
  | true =>
    obtain ⟨u, hu, hstep⟩ := exec_stepsTo c s hw
    rw [hu] at h
    cases h
    exact hstep

/-! ### What every step keeps -/

/-- A step is a command on the state with the queue's rest, or none. -/
theorem step_next {s t : State} (h : step s = .next t) : t = s ∨ ∃ c rest, s.pending = c :: rest ∧ exec c { s with pending := rest } = .next t := by
  unfold step at h
  split at h
  · cases h; exact .inl rfl
  · next c rest hp => exact .inr ⟨c, rest, hp, h⟩

/-- A step leads to its state as far as the blocks go. -/
theorem step_stepsTo {s t : State} (h : step s = .next t) : ∃ u : State, u = { s with pending := t.pending } ∧ u.StepsTo t := by
  rcases step_next h with rfl | ⟨c, rest, -, hexec⟩
  · exact ⟨t, rfl, .refl t⟩
  · have hstep := exec_next_stepsTo hexec
    exact ⟨_, by rw [hstep.pending], hstep⟩

/-- Settles O2: every constructor's meaning answers a next state, which keeps the queue; the one ill-formed term is refused. -/
theorem everyCommandCompletes : Obligations.EveryCommandCompletes := by
  intro c s
  refine ⟨fun hw => ?_, exec_illFormed c s⟩
  obtain ⟨t, ht, hstep⟩ := exec_stepsTo c s hw
  exact ⟨t, ht, hstep.pending⟩

/-- Settles O36: no command changes the terms or the mark of a locked entry; AMEND CHANGE alone rewrites terms, of an unlocked one. -/
theorem lockedTermsStay : Obligations.LockedTermsStay := by
  intro s t hs h e he hl x hx hi
  obtain ⟨u, rfl, hstep⟩ := step_stepsTo h
  exact hstep.cal.locked hs e he hl x hx hi

/-- Settles O37: every command that touches the calendar replaces entries with the ring following, or puts one of a free ident in its place. -/
theorem calendarStaysSound : Obligations.CalendarStaysSound := by
  intro s t hs h
  obtain ⟨u, rfl, hstep⟩ := step_stepsTo h
  exact hstep.cal.sound hs

/-- Settles O38: every move of an entry leaves it marks that fit, and so does a new or amended one. -/
theorem entryMarksStayFit : Obligations.EntryMarksStayFit := by
  intro s t hs hfit h
  obtain ⟨u, rfl, hstep⟩ := step_stepsTo h
  exact hstep.cal.fits hs hfit

/-! ### Keying -/

/-- Something is keyed, or still to be keyed, in ON AIR and in CARRIER alone (R142). -/
def Channel.KeyFits (c : Channel) : Prop := c.key = true ∨ c.keyPlan ≠ [] → c.state = .onAir ∨ c.state = .carrier

theorem Channel.keyFits_of_unkeyed {c : Channel} (hkey : c.key = false) (hplan : c.keyPlan = []) : c.KeyFits := by
  rintro (hk | hk)
  · rw [hkey] at hk; cases hk
  · exact absurd hplan hk

theorem Channel.Becomes.keyFits {c d : Channel} (h : c.Becomes d) (hc : c.KeyFits) : d.KeyFits := by
  cases h with
  | plain d hd => rw [hd]; exact hc
  | enter => exact Channel.keyFits_of_unkeyed rfl rfl
  | hold => exact Channel.keyFits_of_unkeyed rfl rfl
  | resume => exact Channel.keyFits_of_unkeyed rfl rfl
  | start => exact Channel.keyFits_of_unkeyed rfl rfl
  | key k plan hplan => exact hplan
  | keyChange x rest hplan => exact fun _ => hc (.inr (by rw [hplan]; simp))
  | _ => exact hc

theorem Channel.Reaches.keyFits {c d : Channel} (h : c.Reaches d) (hc : c.KeyFits) : d.KeyFits := by
  induction h with
  | refl => exact hc
  | tail _ hlast ih => exact hlast.keyFits ih

/-- Settles O59: no change of a channel leaves it keyed outside ON AIR and CARRIER, and whatever stops the part leaves nothing keyed. -/
theorem keyingStaysSafe : Obligations.KeyingStaysSafe := by
  constructor
  · intro s t hs h n hkeyed
    obtain ⟨u, rfl, hstep⟩ := step_stepsTo h
    have hfits : (t.chan n).KeyFits := (hstep.chans n).keyFits fun hk => (hs n hk).2
    refine ⟨?_, hfits hkeyed⟩
    rcases hstep.keying with hrun | hreleased | ⟨hrun, hsame⟩
    · exact hrun
    · obtain ⟨hkey, hplan⟩ := hreleased n
      rcases hkeyed with hk | hk
      · rw [hkey] at hk; cases hk
      · exact absurd hplan hk
    · obtain ⟨hkey, hplan⟩ := hsame n
      rw [hrun]
      refine (hs n ?_).1
      rwa [hkey, hplan] at hkeyed
  · intro s n hs hkey
    obtain ⟨hrun, hstate⟩ := hs n (.inl hkey)
    unfold State.carrierPin
    rcases hstate with hstate | hstate <;> simp [hrun, hstate]

end Sys2Proof.Machine
end

section
/-! The timebase stays sound: what leaves its record alone, and what each of its own operations makes of it. -/

namespace Sys2Proof.Machine

/-! ### What the soundness of the timebase rests on -/

/-- The fields of the timebase that its soundness speaks of. -/
structure TimeRecord where
  state     : TbState
  time      : Option UtcSecond
  grade     : Nat
  window    : List Int
  carried   : Int
  remainder : Int

/-- The timebase's record without its clock. -/
def State.timeRecord (s : State) : TimeRecord := ⟨s.tb.state, s.tb.time, s.tb.grade, s.tb.window, s.tb.carried, s.tb.remainder⟩

theorem State.timeRecord_congr {s t : State} (h : t.tb = s.tb) : t.timeRecord = s.timeRecord := by unfold State.timeRecord; rw [h]

/-- UNSET exactly without station time (R4). -/
def TimeRecord.timed (b : TimeRecord) : Prop := b.state = .unset ↔ b.time = none

/-- The window and the remainders lie within their bounds (R1, R9). -/
structure TimeRecord.Bounded (b : TimeRecord) : Prop where
  length : b.window.length ≤ 64
  window : ∀ c ∈ b.window, -50 ≤ c ∧ c ≤ 50
  carried : -100 ≤ b.carried ∧ b.carried ≤ 100
  remainder : -100 ≤ b.remainder ∧ b.remainder ≤ 100

/-- The timebase is sound, as far as its record goes. -/
structure TimeRecord.Sound (b : TimeRecord) : Prop where
  timed : b.timed
  graded : b.grade = 6 ↔ b.state = .unset
  bounded : b.Bounded

theorem timeRecord_sound_iff {s : State} : s.timeRecord.Sound ↔ s.tb.sound := by
  constructor
  · rintro ⟨htimed, hgraded, ⟨hlength, hwindow, ⟨hc, hc'⟩, hr, hr'⟩⟩
    exact ⟨htimed, hgraded, hlength, hwindow, hc, hc', hr, hr'⟩
  · rintro ⟨htimed, hgraded, hlength, hwindow, hc, hc', hr, hr'⟩
    exact ⟨htimed, hgraded, ⟨hlength, hwindow, ⟨hc, hc'⟩, hr, hr'⟩⟩

/-! ### What leaves the record alone -/

@[simp] theorem elapse_timeRecord (d : Nat) (s : State) : (s.elapse d).timeRecord = s.timeRecord := rfl
@[simp] theorem elapseTo_timeRecord (due : Nat) (s : State) : (s.elapseTo due).timeRecord = s.timeRecord := rfl
@[simp] theorem handed_timeRecord (p : Period) (s : State) : (s.handed p).timeRecord = s.timeRecord := rfl
@[simp] theorem raise_timeRecord (c : Cause) (s : State) : (s.raise c).timeRecord = s.timeRecord := rfl
@[simp] theorem answer_timeRecord (code : Byte) (r : Result) (f : List Byte) (s : State) : (s.answer code r f).timeRecord = s.timeRecord := rfl
@[simp] theorem refuse_timeRecord (code : Byte) (r : Result) (s : State) : (s.refuse code r).timeRecord = s.timeRecord := rfl
@[simp] theorem setRef_timeRecord (r : Ref) (x : RefRecord) (s : State) : (s.setRef r x).timeRecord = s.timeRecord := by cases r <;> rfl

theorem State.calendarOnly.tb {s t : State} (h : s.calendarOnly t) : t.tb = s.tb := by rw [h]

@[simp] theorem abortMeasurement_tb (s : State) : s.abortMeasurement.tb = s.tb := by rw [abortMeasurement_frame]
@[simp] theorem moveChannel_tb (n : Fin 4) (st : ChannelState) (s : State) : (s.moveChannel n st).tb = s.tb := by rw [moveChannel_frame]
@[simp] theorem moveByEvent_tb (n : Fin 4) (st : ChannelState) (s : State) : (s.moveByEvent n st).tb = s.tb := by rw [moveByEvent_frame]
@[simp] theorem startResuming_tb (n : Fin 4) (s : State) : (s.startResuming n).tb = s.tb := by rw [startResuming_frame]
@[simp] theorem release_tb (i : Nat) (s : State) : (s.release i).tb = s.tb := by rw [release_frame]
@[simp] theorem channelBoundary_tb (n : Fin 4) (s : State) : (s.channelBoundary n).tb = s.tb := by rw [channelBoundary_frame]
@[simp] theorem minuteBoundary_tb (now : Nat) (s : State) : (s.minuteBoundary now).tb = s.tb := (minuteBoundary_calendarOnly now s).tb
@[simp] theorem compositionInstant_tb (now : Nat) (s : State) : (s.compositionInstant now).tb = s.tb := by rw [compositionInstant_frame]
@[simp] theorem askLeap_tb (u : UtcSecond) (s : State) : (s.askLeap u).tb = s.tb := (askLeap_calendarOnly u s).tb
@[simp] theorem removeEntry_tb (i : Nat) (s : State) : (s.removeEntry i).tb = s.tb := (removeEntry_calendarOnly i s).tb
@[simp] theorem leaveRing_tb (i : Nat) (s : State) : (s.leaveRing i).tb = s.tb := (leaveRing_calendarOnly i s).tb
@[simp] theorem finishEntry_tb (e : Entry) (o : EntryOutcome) (s : State) : (s.finishEntry e o).tb = s.tb := (finishEntry_calendarOnly e o s).tb
@[simp] theorem removeWithdrawn_tb (s : State) : s.removeWithdrawn.tb = s.tb := (removeWithdrawn_calendarOnly s).tb
@[simp] theorem select_tb (sel : Option Ref) (first : Bool) (s : State) : (s.select sel first).tb = s.tb := by rw [select_frame]
@[simp] theorem discontinuity_none_tb (s : State) : (s.discontinuity none).tb = s.tb := (discontinuity_calendarOnly s).tb
@[simp] theorem placeChannels_tb (u : UtcSecond) (s : State) : (s.placeChannels u).tb = s.tb := rfl
@[simp] theorem endChannel_tb (n : Fin 4) (s : State) : (s.endChannel n).tb = s.tb := by rw [endChannel_frame]
@[simp] theorem openWindow_tb (n : Fin 4) (s : State) : (s.openWindow n).tb = s.tb := by
  unfold State.openWindow; split
  · rfl
  · split <;> rfl
@[simp] theorem keySecond_tb (n : Fin 4) (k : Nat) (s : State) : (s.keySecond n k).tb = s.tb := rfl

theorem judge_tb (r : Ref) (v : Verdict) (s : State) : (s.judge r v).tb = s.tb := by
  unfold State.judge
  dsimp only
  split <;> split <;> simp

theorem judgeAgreement_tb (r : Ref) (s : State) : (s.judgeAgreement r).tb = s.tb := by
  unfold State.judgeAgreement
  dsimp only
  split <;> simp

theorem checkLeap_tb (r : Ref) (s : State) : (s.checkLeap r).tb = s.tb := by
  unfold State.checkLeap
  dsimp only
  split
  · rfl
  · split
    · simp
    · split <;> simp

/-! ### The grade and the length of a second -/

theorem gradeOf_eq_six_iff {st : TbState} {p : Int} {d : Nat} : gradeOf st p d = 6 ↔ st = .unset := by
  cases st with
  | unset => simp [gradeOf]
  | free => simp [gradeOf]
  | locked => simp only [gradeOf]; split <;> simp
  | holdover =>
    simp only [gradeOf, reduceCtorEq, iff_false]
    split
    · simp
    · split
      · simp
      · split <;> simp

/-- The grade derived is that of the state, the held phase error and the holdover duration; the rest of the record stays (R13). -/
theorem deriveGrade_timeRecord (s : State) :
    s.deriveGrade.timeRecord = { s.timeRecord with grade := gradeOf s.tb.state s.tb.phaseError s.holdoverDuration } := by
  unfold State.deriveGrade
  dsimp only
  split
  · next h => rw [h]; rfl
  · rfl

theorem deriveGrade_sound {s : State} (ht : s.timeRecord.timed) (hb : s.timeRecord.Bounded) : s.deriveGrade.timeRecord.Sound := by
  rw [deriveGrade_timeRecord]
  exact ⟨ht, gradeOf_eq_six_iff, ⟨hb.length, hb.window, hb.carried, hb.remainder⟩⟩

/-- The remainder handed on is at most half a period of the slower strap (R1). -/
theorem correct_remainder_bounds (ns : Int) (s : State) : -100 ≤ (s.correct ns).tb.remainder ∧ (s.correct ns).tb.remainder ≤ 100 := by
  have hperiod : s.periodNs = 100 ∨ s.periodNs = 200 := by unfold State.periodNs; split <;> simp
  have hnear := resolvePeriods_nearest (ns + s.tb.carried) (period := (s.periodNs : Int)) (by omega)
  rw [State.correct_tb]
  dsimp only
  omega

theorem correct_sound {s : State} (h : s.timeRecord.Sound) (ns : Int) : (s.correct ns).timeRecord.Sound :=
  ⟨h.timed, h.graded, ⟨h.bounded.length, h.bounded.window, h.bounded.carried, correct_remainder_bounds ns s⟩⟩

theorem slewOf_bounds (e : Int) : -50 ≤ slewOf e ∧ slewOf e ≤ 50 := by unfold slewOf; omega

theorem slew_sound {s : State} (h : s.timeRecord.Sound) (e : Int) : (s.slew e).timeRecord.Sound := by
  have hentered : ({ s with tb := { s.tb with window := s.tb.windowWith (slewOf e), slewed := true } } : State).timeRecord.Sound := by
    refine ⟨h.timed, h.graded, ⟨Timebase.windowWith_length _ h.bounded.length, fun c hc => ?_, h.bounded.carried, h.bounded.remainder⟩⟩
    rcases Timebase.mem_windowWith hc with hc | rfl
    · exact h.bounded.window c hc
    · exact slewOf_bounds e
  exact correct_sound hentered _

theorem setLength_sound {s : State} (h : s.timeRecord.Sound) : s.setLength.timeRecord.Sound := by
  have hbegun : ({ s with tb := { s.tb with carried := s.tb.remainder, measured := none, slewed := false } } : State).timeRecord.Sound :=
    ⟨h.timed, h.graded, ⟨h.bounded.length, h.bounded.window, h.bounded.remainder, h.bounded.remainder⟩⟩
  unfold State.setLength
  split
  · exact slew_sound hbegun _
  · exact correct_sound hbegun _

/-! ### The second evaluation and the start of a second -/

theorem followSelection_sound {s : State} (h : s.timeRecord.Sound) (ht : s.tb.time.isSome = true) : s.followSelection.timeRecord.Sound := by
  have hsome : s.tb.time ≠ none := by intro hn; rw [hn] at ht; cases ht
  unfold State.followSelection
  split
  · exact h
  · exact deriveGrade_sound ⟨fun hl => (nomatch hl), fun hn => absurd hn hsome⟩ ⟨h.bounded.length, h.bounded.window, h.bounded.carried, h.bounded.remainder⟩
  · exact deriveGrade_sound ⟨fun hl => (nomatch hl), fun hn => absurd hn hsome⟩ ⟨h.bounded.length, h.bounded.window, h.bounded.carried, h.bounded.remainder⟩
  · exact h

theorem evaluate_sound {s : State} (h : s.timeRecord.Sound) (ht : s.tb.time.isSome = true) : s.evaluate.timeRecord.Sound := by
  unfold State.evaluate
  refine followSelection_sound ?_ (by rw [select_tb]; exact ht)
  rw [State.timeRecord_congr (select_tb _ _ _)]
  exact h

theorem handOn_sound {s : State} (h : s.timeRecord.Sound) (ht : s.tb.time.isSome = true) (u : UtcSecond) : (s.handOn u).timeRecord.Sound := by
  have hbegun := setLength_sound (evaluate_sound h ht)
  unfold State.handOn
  dsimp only
  split
  · rw [State.timeRecord_congr (minuteBoundary_tb _ _)]; exact hbegun
  · split
    · rw [State.timeRecord_congr (compositionInstant_tb _ _)]; exact hbegun
    · exact hbegun

theorem fallUnset_sound {s : State} (hb : s.timeRecord.Bounded) : s.fallUnset.timeRecord.Sound := by
  unfold State.fallUnset
  dsimp only
  unfold State.eachChannel
  rw [State.timeRecord_congr (endChannel_tb 3 _), State.timeRecord_congr (endChannel_tb 2 _), State.timeRecord_congr (endChannel_tb 1 _),
    State.timeRecord_congr (endChannel_tb 0 _)]
  have habort : s.abortMeasurement.timeRecord = s.timeRecord := State.timeRecord_congr (abortMeasurement_tb s)
  rw [← habort] at hb
  refine deriveGrade_sound ?_ ?_
  · rw [State.timeRecord_congr (select_tb _ _ _)]
    exact ⟨fun _ => rfl, fun _ => rfl⟩
  · rw [State.timeRecord_congr (select_tb _ _ _)]
    exact ⟨hb.length, hb.window, hb.carried, hb.remainder⟩

theorem nextStationSecond_sound {s : State} (h : s.timeRecord.Sound) (ht : s.tb.time.isSome = true) (stepped : Bool) (u : UtcSecond) :
    (s.nextStationSecond stepped u).timeRecord.Sound := by
  have hset : s.tb.state ≠ .unset := fun hs => by rw [show s.tb.time = none from h.timed.mp hs] at ht; cases ht
  have hask : (s.askLeap u).timeRecord = s.timeRecord := State.timeRecord_congr (askLeap_tb u s)
  have hasked : (s.askLeap u).timeRecord.Sound := by rw [hask]; exact h
  have hplaced : ∀ v, ((s.askLeap u).placeLabel v).timeRecord.Sound := fun v =>
    ⟨⟨fun hs => absurd ((congrArg TimeRecord.state hask).symm.trans hs) hset, fun hn => (nomatch hn)⟩, hasked.graded,
      ⟨hasked.bounded.length, hasked.bounded.window, hasked.bounded.carried, hasked.bounded.remainder⟩⟩
  unfold State.nextStationSecond
  dsimp only
  split
  · exact fallUnset_sound hasked.bounded
  · refine handOn_sound ?_ ?_ _
    · split <;> exact hplaced _
    · split <;> rfl

theorem stationSecond_sound {s : State} (h : s.timeRecord.Sound) : (stationSecond s).timeRecord.Sound := by
  unfold stationSecond
  split
  · exact h
  · next u hu => exact nextStationSecond_sound (s := s.elapse _) h (by simp [hu]) false u

/-! ### Placements, steps and measurements -/

theorem zero_bounds : (-100 : Int) ≤ 0 ∧ (0 : Int) ≤ 100 := by decide

/-- Station time placed out of UNSET's reach: the state is one with station time (R8, R15). -/
theorem place_sound {s : State} (hs : s.tb.state ≠ .unset) (hb : s.timeRecord.Bounded) (u : UtcSecond) : (s.place u).timeRecord.Sound := by
  have habort : s.abortMeasurement.timeRecord = s.timeRecord := State.timeRecord_congr (abortMeasurement_tb s)
  unfold State.place
  dsimp only
  have hderived : ({ s.abortMeasurement.placeLabel u with
      tb := { (s.abortMeasurement.placeLabel u).tb with remainder := 0, measured := none, phaseError := 0, holdoverStart := none }
      chans := (s.abortMeasurement.placeLabel u).chans.map Channel.placed } : State).deriveGrade.timeRecord.Sound := by
    rw [← habort] at hb
    refine deriveGrade_sound ⟨fun hun => absurd ((congrArg TimeRecord.state habort).symm.trans hun) hs, fun hn => (nomatch hn)⟩
      ⟨hb.length, hb.window, hb.carried, zero_bounds⟩
  refine handOn_sound ?_ ?_ u
  · rw [State.timeRecord_congr (placeChannels_tb _ _), State.timeRecord_congr (discontinuity_none_tb _)]
    exact hderived
  · rw [placeChannels_tb, discontinuity_none_tb]
    exact congrArg (fun b : TimeRecord => b.time.isSome) (deriveGrade_timeRecord _)

theorem stepPhase_sound {s : State} (h : s.timeRecord.Sound) : s.stepPhase.timeRecord.Sound := by
  have habort : s.abortMeasurement.timeRecord = s.timeRecord := State.timeRecord_congr (abortMeasurement_tb s)
  have ha : s.abortMeasurement.timeRecord.Sound := by rw [habort]; exact h
  have hderived : ({ s.abortMeasurement with
      tb := { s.abortMeasurement.tb with remainder := 0, measured := none, phaseError := 0 }
      mon := { s.abortMeasurement.mon with firstEdge := false } } : State).deriveGrade.timeRecord.Sound :=
    deriveGrade_sound ha.timed ⟨ha.bounded.length, ha.bounded.window, ha.bounded.carried, zero_bounds⟩
  unfold State.stepPhase
  dsimp only
  split
  · exact hderived
  · next u hu =>
    split
    · refine setLength_sound (evaluate_sound hderived ?_)
      exact congrArg Option.isSome hu
    · exact nextStationSecond_sound hderived (by rw [hu]; rfl) true u

theorem measure_sound {s : State} (h : s.timeRecord.Sound) : s.measure.timeRecord.Sound := by
  unfold State.measure
  dsimp only
  split
  · exact h
  · split
    · exact stepPhase_sound h
    · split
      · exact deriveGrade_sound h.timed h.bounded
      · split
        · have hslew : (({ s with
              tb := { s.tb with phaseError := phaseErrorOf s.phase }, mon := { s.mon with firstEdge := false } } : State).slew
                (phaseErrorOf s.phase)).timeRecord.Sound := slew_sound h _
          exact deriveGrade_sound hslew.timed hslew.bounded
        · exact deriveGrade_sound h.timed h.bounded

theorem adopt_sound {s : State} (h : s.timeRecord.Sound) (r : Ref) (l : Label) : (s.adopt r l).timeRecord.Sound := by
  unfold State.adopt
  dsimp only
  refine place_sound (show TbState.locked ≠ .unset from nofun) ?_ _
  have hrecord : (((s.select (some r) false).setRef r
      { (s.select (some r) false).ref r with agreement := true, carried := false })).timeRecord = s.timeRecord := by
    rw [setRef_timeRecord, State.timeRecord_congr (select_tb _ _ _)]
  have hb := h.bounded
  rw [← hrecord] at hb
  exact ⟨hb.length, hb.window, hb.carried, hb.remainder⟩

theorem adoptOrCarry_sound {s : State} (h : s.timeRecord.Sound) (r : Ref) (l : Label) : (s.adoptOrCarry r l).timeRecord.Sound := by
  unfold State.adoptOrCarry
  split
  · rw [setRef_timeRecord]; exact h
  · exact adopt_sound h r l

theorem checkLeap_sound {s : State} (h : s.timeRecord.Sound) (r : Ref) : (s.checkLeap r).timeRecord.Sound := by
  rw [State.timeRecord_congr (checkLeap_tb r s)]; exact h

theorem goodEdge_sound {s : State} (h : s.timeRecord.Sound) (r : Ref) (l : Label) : (s.goodEdge r l).timeRecord.Sound := by
  have hset : ∀ x, (s.setRef r x).timeRecord.Sound := fun x => by rw [setRef_timeRecord]; exact h
  unfold State.goodEdge
  dsimp only
  split
  · exact adoptOrCarry_sound (hset _) r l
  · split
    · exact measure_sound (checkLeap_sound (hset _) r)
    · split
      · split
        · exact adoptOrCarry_sound (hset _) r l
        · split
          · exact hset _
          · rw [raise_timeRecord, setRef_timeRecord]; exact hset _
      · exact hset _

theorem adoptRequested_sound {s : State} (h : s.timeRecord.Sound) (r : Ref) (l : Label) : (s.adoptRequested r l).timeRecord.Sound := by
  have hlink : ∀ k, ({ s with link := k } : State).timeRecord.Sound := fun _ => h
  have hadopted : ∀ (t : State) (k : Link), t.timeRecord.Sound → ({ t.adopt r l with link := k } : State).timeRecord.Sound :=
    fun t _ ht => adopt_sound ht r l
  unfold State.adoptRequested
  split
  · exact goodEdge_sound (hlink _) r l
  · split
    · exact goodEdge_sound (hlink _) r l
    · split
      · exact goodEdge_sound h r l
      · split
        · exact hadopted _ _ (checkLeap_sound h r)
        · exact hadopted _ _ h

theorem reachVerdict_sound {s : State} (h : s.timeRecord.Sound) (r : Ref) (v : Verdict) : (s.reachVerdict r v).timeRecord.Sound := by
  have hjudged : (s.judge r v).timeRecord.Sound := by rw [State.timeRecord_congr (judge_tb r v s)]; exact h
  have hagreed : ((s.judge r v).judgeAgreement r).timeRecord.Sound := by
    rw [State.timeRecord_congr (judgeAgreement_tb r _)]; exact hjudged
  unfold State.reachVerdict
  dsimp only
  split
  · split
    · exact hagreed
    · split
      · exact adoptRequested_sound hagreed r _
      · exact goodEdge_sound hagreed r _
  · exact hjudged

theorem referenceEdge_sound {s : State} (h : s.timeRecord.Sound) (r : Ref) (edge : Edge) (pulse : Nat) :
    (referenceEdge r edge pulse s).timeRecord.Sound := by
  unfold referenceEdge
  dsimp only
  split
  · exact h
  · split
    · rw [setRef_timeRecord]; exact h
    · exact reachVerdict_sound (by rw [setRef_timeRecord]; exact h) r _

theorem noEdge_sound {s : State} (h : s.timeRecord.Sound) (r : Ref) : (noEdge r s).timeRecord.Sound := by
  unfold noEdge
  dsimp only
  split
  · exact h
  · split
    · exact h
    · exact reachVerdict_sound (by rw [setRef_timeRecord, elapseTo_timeRecord]; exact h) r _

theorem ownSetTime_sound {s : State} (h : s.timeRecord.Sound) (f : List Byte) : (ownSetTime f s).timeRecord.Sound := by
  fun_cases ownSetTime with
  | case3 =>
    exact place_sound (s := { s with tb := { s.tb with state := .free } }) (fun hs => nomatch hs)
      ⟨h.bounded.length, h.bounded.window, h.bounded.carried, h.bounded.remainder⟩ _
  | _ => exact h

end Sys2Proof.Machine
end

section
/-! Every step keeps the timebase and the channels sound: the commands that leave the timebase's record alone, the starts, and the fields of a channel. -/

namespace Sys2Proof.Machine

/-! ### Requests that leave the timebase alone -/

theorem ownReadStatus_tb (f : List Byte) (s : State) : (ownReadStatus f s).tb = s.tb := by fun_cases ownReadStatus <;> rfl
theorem ownClearAttention_tb (f : List Byte) (s : State) : (ownClearAttention f s).tb = s.tb := by fun_cases ownClearAttention <;> rfl
theorem ownSetAttentionEnables_tb (f : List Byte) (s : State) : (ownSetAttentionEnables f s).tb = s.tb := by
  fun_cases ownSetAttentionEnables <;> rfl
theorem ownAdoptReference_tb (f : List Byte) (s : State) : (ownAdoptReference f s).tb = s.tb := by fun_cases ownAdoptReference <;> rfl
theorem ownReadReference_tb (f : List Byte) (s : State) : (ownReadReference f s).tb = s.tb := by fun_cases ownReadReference <;> rfl
theorem ownDefineProfile_tb (f : List Byte) (s : State) : (ownDefineProfile f s).tb = s.tb := by fun_cases ownDefineProfile <;> rfl
theorem ownClearProfile_tb (f : List Byte) (s : State) : (ownClearProfile f s).tb = s.tb := by fun_cases ownClearProfile <;> rfl
theorem ownReadProfile_tb (f : List Byte) (s : State) : (ownReadProfile f s).tb = s.tb := by fun_cases ownReadProfile <;> rfl
theorem ownReadChange_tb (f : List Byte) (s : State) : (ownReadChange f s).tb = s.tb := by fun_cases ownReadChange <;> rfl
theorem ownFindChange_tb (f : List Byte) (s : State) : (ownFindChange f s).tb = s.tb := by fun_cases ownFindChange <;> rfl
theorem ownMeasureDelay_tb (f : List Byte) (s : State) : (ownMeasureDelay f s).tb = s.tb := by fun_cases ownMeasureDelay <;> rfl
theorem ownReadMeasurement_tb (f : List Byte) (s : State) : (ownReadMeasurement f s).tb = s.tb := by fun_cases ownReadMeasurement <;> rfl
theorem ownConfigureChannel_tb (f : List Byte) (s : State) : (ownConfigureChannel f s).tb = s.tb := by fun_cases ownConfigureChannel <;> rfl

theorem withReference_tb (r : Ref) (enabled : Bool) (polarity : Edge) (priority : Nat) (revertive : Bool) (s : State) :
    (s.withReference r enabled polarity priority revertive).tb = s.tb := by rw [withReference_frame]

theorem ownConfigureReference_tb (f : List Byte) (s : State) : (ownConfigureReference f s).tb = s.tb := by
  fun_cases ownConfigureReference with
  | case1 _ _ _ _ r enabled polarity priority revertive =>
    show (State.withReferenceRaised r enabled polarity priority revertive s).tb = s.tb
    unfold State.withReferenceRaised
    split <;> exact withReference_tb _ _ _ _ revertive s
  | _ => rfl

theorem addEntry_tb (t : Terms) (level : Nat) (auto : Bool) (s : State) : (s.addEntry t level auto).tb = s.tb := by
  unfold State.addEntry; dsimp only; split <;> rfl

theorem ownEnterChange_tb (f : List Byte) (s : State) : (ownEnterChange f s).tb = s.tb := by
  fun_cases ownEnterChange with
  | case4 => exact addEntry_tb _ _ _ s
  | _ => rfl

theorem amendLevel_tb (e : Entry) (level : Option Nat) (auto : Option Bool) (s : State) : (s.amendLevel e level auto).tb = s.tb := by
  fun_cases State.amendLevel <;> rfl

theorem amendTerms_tb (e : Entry) (t : Option Terms) (level : Option Nat) (auto : Option Bool) (s : State) :
    (s.amendTerms e t level auto).tb = s.tb := by fun_cases State.amendTerms <;> rfl

theorem ownAmendChange_tb (f : List Byte) (s : State) : (ownAmendChange f s).tb = s.tb := by
  fun_cases ownAmendChange with
  | case4 => exact amendLevel_tb _ _ _ s
  | case5 => exact amendTerms_tb _ _ _ _ s
  | _ => rfl

theorem ownWithdrawChange_tb (f : List Byte) (s : State) : (ownWithdrawChange f s).tb = s.tb := by
  fun_cases ownWithdrawChange <;> simp

theorem ownRetireChange_tb (f : List Byte) (s : State) : (ownRetireChange f s).tb = s.tb := by
  fun_cases ownRetireChange <;> simp

theorem ownChannel_tb {act : Fin 4 → State → State} (h : ∀ n (s : State), (act n s).tb = s.tb) (code : Byte) (f : List Byte) (s : State) :
    (ownChannel code act f s).tb = s.tb := by
  fun_cases ownChannel with
  | case1 => exact h _ s
  | _ => rfl

theorem carrierOnEvent_tb (n : Fin 4) (s : State) : (s.carrierOnEvent n).tb = s.tb := rfl

theorem ownCarrierOn_tb (n : Fin 4) (s : State) : (ownCarrierOn n s).tb = s.tb := by
  fun_cases ownCarrierOn <;> simp [carrierOnEvent_tb]

theorem ownGoOnAir_tb (n : Fin 4) (s : State) : (ownGoOnAir n s).tb = s.tb := by fun_cases ownGoOnAir <;> simp

theorem ownHold_tb (n : Fin 4) (s : State) : (ownHold n s).tb = s.tb := by fun_cases ownHold <;> simp

theorem ownResume_tb (n : Fin 4) (s : State) : (ownResume n s).tb = s.tb := by fun_cases ownResume <;> simp

theorem ownCarrierOff_tb (n : Fin 4) (s : State) : (ownCarrierOff n s).tb = s.tb := by fun_cases ownCarrierOff <;> simp

theorem ownClearFault_tb (n : Fin 4) (s : State) : (ownClearFault n s).tb = s.tb := by fun_cases ownClearFault <;> simp

theorem ownReadChannel_tb (n : Fin 4) (s : State) : (ownReadChannel n s).tb = s.tb := rfl

/-! ### Events that leave the timebase's record alone -/

theorem replyRead_tb (n : Nat) (stale : Bool) (s : State) : (replyRead n stale s).tb = s.tb := by
  fun_cases replyRead <;> rfl

theorem requestCompletion_tb (s : State) : (requestCompletion s).tb = s.tb := by fun_cases requestCompletion <;> rfl

theorem runSecond_tb (s : State) : (runSecond s).tb = s.tb := by fun_cases runSecond <;> rfl

theorem historyTimeExpiry_tb (n : Fin 4) (s : State) : (historyTimeExpiry n s).tb = s.tb := by fun_cases historyTimeExpiry <;> rfl

theorem referenceCharacter_tb (r : Ref) (v : Byte) (parity stop : Bool) (s : State) : (referenceCharacter r v parity stop s).tb = s.tb := by
  fun_cases referenceCharacter <;> simp

theorem lateMessage_timeRecord (r : Ref) (s : State) : (lateMessage r s).timeRecord = s.timeRecord := by
  unfold lateMessage
  dsimp only
  split
  · rfl
  · split
    · rfl
    · rw [setRef_timeRecord, elapseTo_timeRecord]

theorem faultActive_tb (n : Fin 4) (stood : Nat) (s : State) : (faultActive n stood s).tb = s.tb := by
  unfold faultActive
  dsimp only
  split
  · rfl
  · split
    · rfl
    · rw [moveByEvent_tb]; rfl

theorem faultInactive_tb (n : Fin 4) (stood : Nat) (s : State) : (faultInactive n stood s).tb = s.tb := by
  unfold faultInactive
  dsimp only
  split <;> rfl

theorem endMeasurement_timeRecord (w : Working) (s : State) : (s.endMeasurement w).timeRecord = s.timeRecord := by
  fun_cases State.endMeasurement <;> rfl

theorem sampleWindowClose_timeRecord (s : State) : (sampleWindowClose s).timeRecord = s.timeRecord := by
  fun_cases sampleWindowClose with
  | case1 => rfl
  | case2 => rfl
  | case3 => rw [endMeasurement_timeRecord, elapseTo_timeRecord]
  | case4 => exact elapseTo_timeRecord _ s

theorem monitorLevel_tb (n : Fin 4) (edge : Edge) (s : State) : (monitorLevel n edge s).tb = s.tb := rfl

theorem monitorEdge_tb (n : Fin 4) (edge : Edge) (s : State) : (monitorEdge n edge s).tb = s.tb := by fun_cases monitorEdge <;> rfl

theorem keyingTimedChange_timeRecord (n : Fin 4) (s : State) : (keyingTimedChange n s).timeRecord = s.timeRecord := by
  unfold keyingTimedChange
  split
  · rfl
  · exact elapseTo_timeRecord _ s

theorem toChannelSecond_timeRecord (n : Fin 4) (v : UtcSecond) (s : State) : (s.toChannelSecond n v).timeRecord = s.timeRecord := by
  unfold State.toChannelSecond
  split <;> rfl

theorem channelSecondStart_timeRecord (n : Fin 4) (s : State) : (channelSecondStart n s).timeRecord = s.timeRecord := by
  unfold channelSecondStart
  split
  · rfl
  · next v _ =>
    dsimp only
    rw [State.timeRecord_congr (openWindow_tb _ _), State.timeRecord_congr (keySecond_tb _ _ _)]
    refine Eq.trans ?_ (toChannelSecond_timeRecord n v s)
    split
    · exact State.timeRecord_congr (channelBoundary_tb _ _)
    · rfl

/-! ### The supplies and the starts -/

theorem timebaseStart_sound {s : State} (high : Bool) (h : s.tb = Timebase.start high) : s.timeRecord.Sound := by
  refine timeRecord_sound_iff.mpr ?_
  rw [h]
  simp [Timebase.sound, Timebase.start]

theorem lossMoment_sound {s : State} (h : s.timeRecord.Sound) (fraction : Ticks) : (s.lossMoment fraction).timeRecord.Sound := by
  unfold State.lossMoment
  split
  · exact timebaseStart_sound s.fselPin rfl
  · exact h

/-- The procedure of a warm start may move station time, which stays placed (R76). -/
theorem procedureEntry_sound {s : State} (h : s.timeRecord.Sound) (hs : s.tb.state ≠ .unset) (loss : Option UtcSecond) (i : Nat) :
    (s.procedureEntry loss i).timeRecord.Sound ∧ (s.procedureEntry loss i).tb.state ≠ .unset := by
  have hkept : ∀ t : State, t.tb = s.tb → t.timeRecord.Sound ∧ t.tb.state ≠ .unset := fun t ht => by
    rw [State.timeRecord_congr ht, ht]; exact ⟨h, hs⟩
  have hmoved : ∀ (u : UtcSecond) (t : State), t.tb = (s.moveTime u).tb → t.timeRecord.Sound ∧ t.tb.state ≠ .unset := fun u t ht => by
    rw [State.timeRecord_congr ht, ht]
    exact ⟨⟨⟨fun hun => absurd hun hs, fun hn => nomatch hn⟩, h.graded,
      ⟨h.bounded.length, h.bounded.window, h.bounded.carried, h.bounded.remainder⟩⟩, hs⟩
  unfold State.procedureEntry
  split
  · next now e _ _ =>
    split
    · exact ⟨h, hs⟩
    · exact ⟨h, hs⟩
    · exact hkept _ (replaceInEffect_calendarOnly now e s).tb
    all_goals
      split
      · exact hmoved _ _ (takeLate_calendarOnly _ _ _).tb
      · split
        · exact hkept _ (takeLate_calendarOnly _ _ _).tb
        · exact hkept _ (recomputeEntry_calendarOnly _ _ _).tb
  · exact ⟨h, hs⟩

theorem discontinuity_sound {s : State} (h : s.timeRecord.Sound) (hs : s.tb.state ≠ .unset) (loss : Option UtcSecond) :
    (s.discontinuity loss).timeRecord.Sound := by
  have hfold : ∀ (l : List Nat) (t : State), t.timeRecord.Sound → t.tb.state ≠ .unset →
      (l.foldl (fun t i => t.procedureEntry loss i) t).timeRecord.Sound := by
    intro l
    induction l with
    | nil => exact fun t ht _ => ht
    | cons i l ih =>
      intro t ht hst
      obtain ⟨hsound, hset⟩ := procedureEntry_sound ht hst loss i
      exact ih _ hsound hset
  have htb := removeWithdrawn_tb s
  exact hfold _ s.removeWithdrawn (by rw [State.timeRecord_congr htb]; exact h) (by rw [htb]; exact hs)

theorem timePlaced_sound {s : State} (h : s.timeRecord.Sound) (century : Nat) : (s.timePlaced century).timeRecord.Sound := by
  unfold State.timePlaced
  split
  · exact h
  · split
    · exact h
    · exact timebaseStart_sound s.fselPin rfl

theorem freeAt_sound {s : State} (hb : s.timeRecord.Bounded) (u : UtcSecond) (phase : Nat) : (s.freeAt u phase).timeRecord.Sound :=
  have hgrade : (5 : Nat) ≠ 6 := by decide
  have hstate : TbState.free ≠ .unset := nofun
  ⟨⟨fun h => absurd h hstate, fun h => nomatch h⟩, ⟨fun h => absurd h hgrade, fun h => absurd h hstate⟩,
    ⟨hb.length, hb.window, hb.carried, hb.remainder⟩⟩

theorem warmStart_sound (fraction : Ticks) (s : State) : (s.warmStart fraction).timeRecord.Sound := by
  have hbase : (s.warmBase fraction).timeRecord.Sound := timebaseStart_sound s.fselPin rfl
  have hstarted : ∀ t : State, t.timeRecord.Sound → t.started.timeRecord.Sound := fun _ ht => ht
  have hplaced : ∀ (b : State) (u : UtcSecond) (phase century : Nat) (loss : Option UtcSecond), b.timeRecord.Bounded →
      (((b.freeAt u phase).discontinuity loss).timePlaced century).timeRecord.Sound := fun b u phase century loss hb =>
    timePlaced_sound (discontinuity_sound (freeAt_sound hb u phase) (show TbState.free ≠ .unset from nofun) loss) century
  have hremoved : ∀ b : State, b.timeRecord.Sound → b.removeWithdrawn.timeRecord.Sound := fun b hb => by
    rw [State.timeRecord_congr (removeWithdrawn_tb b)]; exact hb
  fun_cases State.warmStart with
  | case1 b loss u phase _ => exact hstarted _ (hplaced b u phase _ _ hbase.bounded)
  | case2 b _ => exact hstarted _ (hremoved b hbase)

theorem start_sound (fraction : Ticks) (s : State) : (s.start fraction).timeRecord.Sound := by
  unfold State.start
  split
  · exact warmStart_sound fraction s
  · exact timebaseStart_sound s.fselPin rfl

theorem powerUp_sound {s : State} (h : s.timeRecord.Sound) (fraction : Ticks) (high : Bool) : (powerUp fraction high s).timeRecord.Sound := by
  unfold powerUp
  dsimp only
  split
  · exact h
  · split
    · exact start_sound _ _
    · exact h

theorem resetNRelease_sound {s : State} (h : s.timeRecord.Sound) (fraction : Ticks) : (resetNRelease fraction s).timeRecord.Sound := by
  unfold resetNRelease
  dsimp only
  split
  · exact h
  · split
    · exact start_sound _ _
    · exact h

theorem vddLoss_sound {s : State} (h : s.timeRecord.Sound) (fraction : Ticks) (good : Bool) : (vddLoss fraction good s).timeRecord.Sound := by
  have hloss := lossMoment_sound h fraction
  unfold vddLoss
  split
  · exact ⟨hloss.timed, hloss.graded, hloss.bounded⟩
  · exact h

theorem resetNLow_sound {s : State} (h : s.timeRecord.Sound) (fraction : Ticks) : (resetNLow fraction s).timeRecord.Sound := by
  have hloss := lossMoment_sound h fraction
  unfold resetNLow
  split
  · exact ⟨hloss.timed, hloss.graded, hloss.bounded⟩
  · exact h

theorem ownResetPart_sound {s : State} (h : s.timeRecord.Sound) (fraction : Ticks) (f : List Byte) :
    (ownResetPart fraction f s).timeRecord.Sound := by
  fun_cases ownResetPart with
  | case1 => exact warmStart_sound _ _
  | _ => exact h

/-! ### Every command -/

/-- A request whose owner keeps the record sound keeps it sound. -/
theorem takeRequest_sound {owner : List Byte → State → State} (howner : ∀ f (s : State), s.timeRecord.Sound → (owner f s).timeRecord.Sound)
    {s : State} (h : s.timeRecord.Sound) (code : Byte) (total : Nat) (p : Period) : (s.takeRequest code total owner p).timeRecord.Sound :=
  takeRequest_cases (P := fun t => t.timeRecord.Sound) h h h h fun _ _ => howner _ _ h

theorem takeRequest_sound_of_tb {owner : List Byte → State → State} (howner : ∀ f (s : State), (owner f s).tb = s.tb)
    {s : State} (h : s.timeRecord.Sound) (code : Byte) (total : Nat) (p : Period) : (s.takeRequest code total owner p).timeRecord.Sound :=
  takeRequest_sound (fun f s hs => by rw [State.timeRecord_congr (howner f s)]; exact hs) h code total p

theorem whenRunning_sound {f : State → State} (hf : ∀ s : State, s.timeRecord.Sound → (f s).timeRecord.Sound) {s : State}
    (h : s.timeRecord.Sound) (d : Nat) : (s.whenRunning d f).timeRecord.Sound := by
  unfold State.whenRunning
  split
  · exact hf _ h
  · exact h

theorem whenRunning_sound_of_timeRecord {f : State → State} (hf : ∀ s : State, (f s).timeRecord = s.timeRecord) {s : State}
    (h : s.timeRecord.Sound) (d : Nat) : (s.whenRunning d f).timeRecord.Sound :=
  whenRunning_sound (fun s hs => by rw [hf]; exact hs) h d

theorem whenRunning_sound_of_tb {f : State → State} (hf : ∀ s : State, (f s).tb = s.tb) {s : State}
    (h : s.timeRecord.Sound) (d : Nat) : (s.whenRunning d f).timeRecord.Sound :=
  whenRunning_sound_of_timeRecord (fun s => State.timeRecord_congr (hf s)) h d

theorem whenRunning_id_sound {s : State} (h : s.timeRecord.Sound) (d : Nat) : (s.whenRunning d id).timeRecord.Sound :=
  whenRunning_sound (fun _ hs => hs) h d

theorem ownReadTime_sound (f : List Byte) (s : State) (h : s.timeRecord.Sound) : (ownReadTime f s).timeRecord.Sound := by
  fun_cases ownReadTime <;> exact ⟨h.timed, h.graded, h.bounded⟩

theorem takeUnknown_sound {s : State} (h : s.timeRecord.Sound) (code : Byte) (p : Period) : (s.takeUnknown code p).timeRecord.Sound :=
  takeRequest_sound_of_tb (owner := fun _ t => t.refuse code .unknownRequest) (fun _ _ => rfl) h code _ _

theorem runSecond_sound {s : State} (h : s.timeRecord.Sound) : (runSecond s).timeRecord.Sound := by
  rw [State.timeRecord_congr (runSecond_tb s)]; exact h

theorem monitorEdge_sound {s : State} (h : s.timeRecord.Sound) (d : Nat) (n : Fin 4) (edge : Edge) :
    (if s.running then monitorEdge n edge (s.elapse d) else monitorLevel n edge s).timeRecord.Sound := by
  split
  · rw [State.timeRecord_congr (monitorEdge_tb n edge _)]; exact h
  · exact h

/-- Every well-formed command answers a next state whose timebase is sound where it was. -/
theorem exec_sound (c : Instr) {s : State} (hw : c.wellFormed = true) (h : s.timeRecord.Sound) :
    ∃ t, exec c s = .next t ∧ t.timeRecord.Sound := by
  cases c with
  | readStatus => exact ⟨_, rfl, takeRequest_sound_of_tb ownReadStatus_tb h _ _ _⟩
  | clearAttention => exact ⟨_, rfl, takeRequest_sound_of_tb ownClearAttention_tb h _ _ _⟩
  | setAttentionEnables => exact ⟨_, rfl, takeRequest_sound_of_tb ownSetAttentionEnables_tb h _ _ _⟩
  | resetPart => exact ⟨_, rfl, takeRequest_sound (fun f _ hs => ownResetPart_sound hs _ f) h _ _ _⟩
  | readTime => exact ⟨_, rfl, takeRequest_sound ownReadTime_sound h _ _ _⟩
  | setTime => exact ⟨_, rfl, takeRequest_sound (fun f _ hs => ownSetTime_sound hs f) h _ _ _⟩
  | adoptReference => exact ⟨_, rfl, takeRequest_sound_of_tb ownAdoptReference_tb h _ _ _⟩
  | configureReference => exact ⟨_, rfl, takeRequest_sound_of_tb ownConfigureReference_tb h _ _ _⟩
  | readReference => exact ⟨_, rfl, takeRequest_sound_of_tb ownReadReference_tb h _ _ _⟩
  | defineProfile => exact ⟨_, rfl, takeRequest_sound_of_tb ownDefineProfile_tb h _ _ _⟩
  | clearProfile => exact ⟨_, rfl, takeRequest_sound_of_tb ownClearProfile_tb h _ _ _⟩
  | readProfile => exact ⟨_, rfl, takeRequest_sound_of_tb ownReadProfile_tb h _ _ _⟩
  | enterChange => exact ⟨_, rfl, takeRequest_sound_of_tb ownEnterChange_tb h _ _ _⟩
  | amendChange => exact ⟨_, rfl, takeRequest_sound_of_tb ownAmendChange_tb h _ _ _⟩
  | withdrawChange => exact ⟨_, rfl, takeRequest_sound_of_tb ownWithdrawChange_tb h _ _ _⟩
  | retireChange => exact ⟨_, rfl, takeRequest_sound_of_tb ownRetireChange_tb h _ _ _⟩
  | readChange => exact ⟨_, rfl, takeRequest_sound_of_tb ownReadChange_tb h _ _ _⟩
  | findChange => exact ⟨_, rfl, takeRequest_sound_of_tb ownFindChange_tb h _ _ _⟩
  | configureChannel => exact ⟨_, rfl, takeRequest_sound_of_tb ownConfigureChannel_tb h _ _ _⟩
  | carrierOn => exact ⟨_, rfl, takeRequest_sound_of_tb (ownChannel_tb ownCarrierOn_tb _) h _ _ _⟩
  | goOnAir => exact ⟨_, rfl, takeRequest_sound_of_tb (ownChannel_tb ownGoOnAir_tb _) h _ _ _⟩
  | hold => exact ⟨_, rfl, takeRequest_sound_of_tb (ownChannel_tb ownHold_tb _) h _ _ _⟩
  | resume => exact ⟨_, rfl, takeRequest_sound_of_tb (ownChannel_tb ownResume_tb _) h _ _ _⟩
  | carrierOff => exact ⟨_, rfl, takeRequest_sound_of_tb (ownChannel_tb ownCarrierOff_tb _) h _ _ _⟩
  | clearFault => exact ⟨_, rfl, takeRequest_sound_of_tb (ownChannel_tb ownClearFault_tb _) h _ _ _⟩
  | readChannel => exact ⟨_, rfl, takeRequest_sound_of_tb (ownChannel_tb ownReadChannel_tb _) h _ _ _⟩
  | measureDelay => exact ⟨_, rfl, takeRequest_sound_of_tb ownMeasureDelay_tb h _ _ _⟩
  | readMeasurement => exact ⟨_, rfl, takeRequest_sound_of_tb ownReadMeasurement_tb h _ _ _⟩
  | unknownRequest => exact ⟨_, if_pos hw, takeUnknown_sound h _ _⟩
  | replyRead => exact ⟨_, rfl, whenRunning_sound_of_tb (replyRead_tb _ _) h _⟩
  | requestCompletion => exact ⟨_, rfl, whenRunning_sound_of_tb requestCompletion_tb h _⟩
  | stationSecond => exact ⟨_, rfl, whenRunning_sound (fun _ hs => stationSecond_sound hs) h _⟩
  | channelSecondStart => exact ⟨_, rfl, whenRunning_sound_of_timeRecord (channelSecondStart_timeRecord _) h _⟩
  | holdoverBandReached => exact ⟨_, rfl, whenRunning_sound (fun _ hs => deriveGrade_sound hs.timed hs.bounded) h _⟩
  | runSecond => exact ⟨_, rfl, runSecond_sound (whenRunning_id_sound h _)⟩
  | historyTimeExpiry => exact ⟨_, rfl, whenRunning_sound_of_tb (historyTimeExpiry_tb _) h _⟩
  | referenceEdge => exact ⟨_, rfl, whenRunning_sound (fun _ hs => referenceEdge_sound hs _ _ _) h _⟩
  | noEdge => exact ⟨_, rfl, whenRunning_sound (fun _ hs => noEdge_sound hs _) h _⟩
  | referenceCharacter => exact ⟨_, rfl, whenRunning_sound_of_tb (referenceCharacter_tb _ _ _ _) h _⟩
  | lateMessage => exact ⟨_, rfl, whenRunning_sound_of_timeRecord (lateMessage_timeRecord _) h _⟩
  | faultActive => exact ⟨_, rfl, whenRunning_sound_of_tb (faultActive_tb _ _) h _⟩
  | faultInactive => exact ⟨_, rfl, whenRunning_sound_of_tb (faultInactive_tb _ _) h _⟩
  | sampleWindowClose => exact ⟨_, rfl, whenRunning_sound_of_timeRecord sampleWindowClose_timeRecord h _⟩
  | vddLoss => exact ⟨_, rfl, vddLoss_sound (whenRunning_id_sound h _) _ _⟩
  | powerUp => exact ⟨_, rfl, powerUp_sound h _ _⟩
  | resetNLow => exact ⟨_, rfl, resetNLow_sound (whenRunning_id_sound h _) _⟩
  | resetNRelease => exact ⟨_, rfl, resetNRelease_sound h _⟩
  | vbatLow => exact ⟨_, rfl, ⟨h.timed, h.graded, h.bounded⟩⟩
  | keyingTimedChange => exact ⟨_, rfl, whenRunning_sound_of_timeRecord (keyingTimedChange_timeRecord _) h _⟩
  | monitorEdge => exact ⟨_, rfl, monitorEdge_sound h _ _ _⟩

theorem exec_next_sound {c : Instr} {s t : State} (h : s.timeRecord.Sound) (hexec : exec c s = .next t) : t.timeRecord.Sound := by
  cases hw : c.wellFormed with
  | false => rw [exec_illFormed c s hw] at hexec; cases hexec
  | true =>
    obtain ⟨u, hu, hsound⟩ := exec_sound c hw h
    rw [hu] at hexec
    cases hexec
    exact hsound

theorem step_sound {s t : State} (h : s.timeRecord.Sound) (hstep : step s = .next t) : t.timeRecord.Sound := by
  rcases step_next hstep with rfl | ⟨c, rest, -, hexec⟩
  · exact h
  · exact exec_next_sound (s := { s with pending := rest }) h hexec

/-! ### The fields of a channel -/

/-- A channel's fields lie in their bounds and fit its state. -/
structure Channel.Sound (c : Channel) : Prop where
  bounded : c.bounded
  fits : c.fieldsFit

theorem ChannelConfig.legal_drive_le {cfg : ChannelConfig} (h : cfg.legal) : cfg.drive ≤ 50000 := by
  obtain ⟨-, -, -, -, -, -, hdrive⟩ := h
  exact hdrive

theorem ChannelConfig.legal_of_drive {cfg : ChannelConfig} (h : cfg.legal) {mean : Nat} (hm : mean ≤ 50000) :
    ({ cfg with drive := mean } : ChannelConfig).legal := by
  obtain ⟨hid, hdwell, hdwell', hdoubt, hsilence, hsilence', -⟩ := h
  exact ⟨hid, hdwell, hdwell', hdoubt, hsilence, hsilence', hm⟩

/-- What fits a state other than HELD and RESUMING: none of their fields. -/
theorem Channel.enter_fits {st : ChannelState} (hheld : ∀ r, st ≠ .held r) (hresuming : st ≠ .resuming) (c : Channel) :
    (c.enter st).fieldsFit := by
  refine ⟨?_, nofun, nofun, ?_⟩
  · simp [Channel.enter, hheld]
  · simp [Channel.enter, hresuming]

theorem Channel.Becomes.bounded {c d : Channel} (h : c.Becomes d) (hc : c.bounded) : d.bounded := by
  obtain ⟨hlegal, hforce, hpending, hhistory, hstack⟩ := hc
  have hadvance : c.pendingAdvance.getD c.inForce ≤ 50000 := by
    cases hp : c.pendingAdvance with
    | none => exact hforce
    | some a => exact hpending a hp
  cases h with
  | plain d hd => rw [hd]; exact ⟨hlegal, hforce, hpending, hhistory, hstack⟩
  | arbiter a ha => exact ⟨hlegal, hforce, hpending, hhistory, ha hstack⟩
  | resume start now hlen => exact ⟨hlegal, hforce, hpending, by simp; omega, hstack⟩
  | carrierOn now hlen => exact ⟨hlegal, hforce, hpending, by simp; omega, hstack⟩
  | expire young hyoung => exact ⟨hlegal, hforce, hpending, hyoung.trans hhistory, hstack⟩
  | configure cfg hcfg => exact ⟨hcfg, hforce, fun a ha => by cases ha; exact ChannelConfig.legal_drive_le hcfg, hhistory, hstack⟩
  | advance mean hm => exact ⟨ChannelConfig.legal_of_drive hlegal hm, hm, nofun, hhistory, hstack⟩
  | advanceLater mean hm => exact ⟨ChannelConfig.legal_of_drive hlegal hm, hforce, fun a ha => by cases ha; exact hm, hhistory, hstack⟩
  | advanceTaken => exact ⟨hlegal, hadvance, nofun, hhistory, hstack⟩
  | start cfg history faultHigh monitorHigh hcfg hlen =>
    exact ⟨hcfg hlegal, ChannelConfig.legal_drive_le (hcfg hlegal), nofun, hlen.trans hhistory, Nat.zero_le _⟩
  | _ => exact ⟨hlegal, hforce, hpending, hhistory, hstack⟩

theorem Channel.Becomes.fits {c d : Channel} (h : c.Becomes d) (hc : c.fieldsFit) : d.fieldsFit := by
  cases h with
  | plain d hd => rw [hd]; exact hc
  | enter st hheld hresuming => exact Channel.enter_fits hheld hresuming c
  | hold r entry now hentry =>
    refine ⟨?_, fun hsome => congrArg ChannelState.held (hentry hsome), nofun, ?_⟩
    · cases r <;> simp [Channel.enter]
    · simp [Channel.enter]
  | holdAgain r entry now hs hentry =>
    obtain ⟨hsince, hby, hdeferred, hstart⟩ := hc
    refine ⟨?_, fun hsome => ?_, hdeferred, hstart⟩
    · cases r <;> simp [hs]
    · rcases hentry hsome with rfl | rfl
      · exact hby hsome
      · exact hs
  | resume start now _ => exact ⟨by simp [Channel.enter], nofun, nofun, by simp [Channel.enter]⟩
  | defer hs =>
    obtain ⟨hsince, hby, hdeferred, hstart⟩ := hc
    exact ⟨hsince, nofun, fun _ => hs, hstart⟩
  | start cfg history faultHigh monitorHigh _ _ => exact ⟨by simp [Channel.start], nofun, nofun, by simp [Channel.start]⟩
  | _ => exact hc

theorem Channel.Reaches.sound {c d : Channel} (h : c.Reaches d) (hc : c.Sound) : d.Sound := by
  induction h with
  | refl => exact hc
  | tail _ hlast ih => exact ⟨hlast.bounded ih.bounded, hlast.fits ih.fits⟩

/-- Settles O58: the timebase by what each of its operations makes of its record, the priorities and the channels by what every command leads to. -/
theorem blocksStaySound : Obligations.BlocksStaySound := by
  intro s t htb hmon hchans h
  refine ⟨timeRecord_sound_iff.mp (step_sound (timeRecord_sound_iff.mpr htb) h), ?_⟩
  obtain ⟨u, rfl, hstep⟩ := step_stepsTo h
  refine ⟨hstep.mon hmon, fun n => ?_⟩
  obtain ⟨hbounded, hfits⟩ := hchans n
  have hsound := (hstep.chans n).sound ⟨hbounded, hfits⟩
  exact ⟨hsound.bounded, hsound.fits⟩

end Sys2Proof.Machine
end

section
/-! The queue and the link (R179, R189 to R193): the front command, a part that is stopped, the tests of a request period, reply reads and completions. -/

namespace Sys2Proof.Machine

/-! ### The queue -/

/-- Settles O1: a step by the two shapes of the queue. -/
theorem stepRunsTheFrontCommand : Obligations.StepRunsTheFrontCommand := by
  constructor
  · intro c rest s hs
    rw [step, hs]
  · intro s hs
    rw [step, hs]

/-! ### A part that is stopped -/

theorem exec_request_stopped {c : Instr} {code : Byte} {p : Period} (hw : c.wellFormed = true) (hq : c.request? = some (code, p)) {s : State}
    (hr : s.running = false) : exec c s = .next s := by
  obtain ⟨total, owner, x, hexec, -⟩ := exec_request hw hq
  rw [hexec, takeRequest_stopped hr]

/-- Settles O3: the link takes no request of a stopped part, and no other event but the excepted ones finds its main logic. -/
theorem stoppedPartTakesNothing : Obligations.StoppedPartTakesNothing := by
  intro c s hw hr htakes
  cases hq : c.request? with
  | some request => exact exec_request_stopped hw hq hr
  | none =>
    cases c with
    | replyRead elapsed bytes extra stale => exact congrArg Host.Outcome.next (whenRunning_stopped hr elapsed (replyRead bytes stale))
    | requestCompletion elapsed => exact congrArg Host.Outcome.next (whenRunning_stopped hr elapsed requestCompletion)
    | stationSecond => exact congrArg Host.Outcome.next (whenRunning_stopped hr 0 stationSecond)
    | channelSecondStart n => exact congrArg Host.Outcome.next (whenRunning_stopped hr 0 (channelSecondStart n))
    | holdoverBandReached => exact congrArg Host.Outcome.next (whenRunning_stopped hr 0 holdoverBandReached)
    | historyTimeExpiry n => exact congrArg Host.Outcome.next (whenRunning_stopped hr 0 (historyTimeExpiry n))
    | referenceEdge elapsed r edge pulse => exact congrArg Host.Outcome.next (whenRunning_stopped hr elapsed (referenceEdge r edge pulse))
    | noEdge r => exact congrArg Host.Outcome.next (whenRunning_stopped hr 0 (noEdge r))
    | referenceCharacter elapsed r value parity stop =>
      exact congrArg Host.Outcome.next (whenRunning_stopped hr elapsed (referenceCharacter r value parity stop))
    | lateMessage r => exact congrArg Host.Outcome.next (whenRunning_stopped hr 0 (lateMessage r))
    | faultActive elapsed line => exact congrArg Host.Outcome.next (whenRunning_stopped hr elapsed (faultActive line.channel line.stood))
    | faultInactive elapsed line => exact congrArg Host.Outcome.next (whenRunning_stopped hr elapsed (faultInactive line.channel line.stood))
    | sampleWindowClose => exact congrArg Host.Outcome.next (whenRunning_stopped hr 0 sampleWindowClose)
    | keyingTimedChange n => exact congrArg Host.Outcome.next (whenRunning_stopped hr 0 (keyingTimedChange n))
    | vddLoss => exact htakes.elim
    | powerUp => exact htakes.elim
    | resetNLow => exact htakes.elim
    | resetNRelease => exact htakes.elim
    | vbatLow => exact htakes.elim
    | runSecond => exact htakes.elim
    | monitorEdge => exact htakes.elim
    | _ => cases hq

/-! ### The tests of a request period -/

/-- A request of a known code asks the link for the total length of the formats table (R190). -/
theorem exec_known_request {c : Instr} {code : Byte} {p : Period} (hq : c.request? = some (code, p)) (hknown : unknownCode code = false)
    (hw : c.wellFormed = true) : ∃ owner, ∀ s, exec c s = .next (s.takeRequest code (totalLength code) owner p) := by
  cases c with
  | readStatus => cases hq; exact ⟨_, fun _ => rfl⟩
  | clearAttention => cases hq; exact ⟨_, fun _ => rfl⟩
  | setAttentionEnables => cases hq; exact ⟨_, fun _ => rfl⟩
  | resetPart => cases hq; exact ⟨_, fun _ => rfl⟩
  | readTime => cases hq; exact ⟨_, fun _ => rfl⟩
  | setTime => cases hq; exact ⟨_, fun _ => rfl⟩
  | adoptReference => cases hq; exact ⟨_, fun _ => rfl⟩
  | configureReference => cases hq; exact ⟨_, fun _ => rfl⟩
  | readReference => cases hq; exact ⟨_, fun _ => rfl⟩
  | defineProfile => cases hq; exact ⟨_, fun _ => rfl⟩
  | clearProfile => cases hq; exact ⟨_, fun _ => rfl⟩
  | readProfile => cases hq; exact ⟨_, fun _ => rfl⟩
  | enterChange => cases hq; exact ⟨_, fun _ => rfl⟩
  | amendChange => cases hq; exact ⟨_, fun _ => rfl⟩
  | withdrawChange => cases hq; exact ⟨_, fun _ => rfl⟩
  | retireChange => cases hq; exact ⟨_, fun _ => rfl⟩
  | readChange => cases hq; exact ⟨_, fun _ => rfl⟩
  | findChange => cases hq; exact ⟨_, fun _ => rfl⟩
  | configureChannel => cases hq; exact ⟨_, fun _ => rfl⟩
  | carrierOn => cases hq; exact ⟨_, fun _ => rfl⟩
  | goOnAir => cases hq; exact ⟨_, fun _ => rfl⟩
  | hold => cases hq; exact ⟨_, fun _ => rfl⟩
  | resume => cases hq; exact ⟨_, fun _ => rfl⟩
  | carrierOff => cases hq; exact ⟨_, fun _ => rfl⟩
  | clearFault => cases hq; exact ⟨_, fun _ => rfl⟩
  | readChannel => cases hq; exact ⟨_, fun _ => rfl⟩
  | measureDelay => cases hq; exact ⟨_, fun _ => rfl⟩
  | readMeasurement => cases hq; exact ⟨_, fun _ => rfl⟩
  | unknownRequest k q =>
    cases hq
    have hunknown : unknownCode code = true := hw
    rw [hknown] at hunknown
    cases hunknown
  | _ => cases hq

theorem takeUnknown_refused {s : State} (h : s.listens) {p : Period} (hstale : p.stale = false) (code : Byte) :
    s.takeUnknown code p = (s.handed p).refuse code .unknownRequest :=
  takeRequest_handed (p := { p with extra := 0 }) h hstale rfl rfl

theorem code_mem_requestCodes {code : Byte} {k : Nat} (hk : BitVec.ofNat 8 k ∈ requestCodes) (h : code.toNat = k) : code ∈ requestCodes := by
  rw [← h, BitVec.ofNat_toNat, BitVec.setWidth_eq] at hk
  exact hk

theorem unknownCode_iff {code : Byte} : unknownCode code = true ↔ code ≠ 0 ∧ code ∉ requestCodes := by
  simp [unknownCode]

/-- A code of no row of the formats table is an unknown request (R190). -/
theorem requestOf_unknown {code : Byte} (h : unknownCode code = true) (fraction : Ticks) (p : Period) :
    requestOf code fraction p = .unknownRequest code p := by
  obtain ⟨-, hnot⟩ := unknownCode_iff.mp h
  unfold requestOf
  split
  case h_29 => rfl
  all_goals
    next hcode => exact absurd (code_mem_requestCodes (by decide) hcode) hnot

theorem selectPeriod_request {code : Byte} (h : code ≠ 0) (fraction : Ticks) (p : Period) :
    selectPeriod fraction p.elapsed (code :: p.fields) p.extra p.stale = requestOf code fraction p := if_neg h

/-- The code and the fields of a request spell it (R189). -/
theorem requestOf_request {c : Instr} {code : Byte} {p : Period} {fraction : Ticks} (hq : c.request? = some (code, p))
    (hw : c.wellFormed = true) (hfraction : ∀ q, c = .resetPart p q → q = fraction) : code ≠ 0 ∧ requestOf code fraction p = c := by
  cases c with
  | unknownRequest k q =>
    cases hq
    obtain ⟨hzero, -⟩ := unknownCode_iff.mp hw
    exact ⟨hzero, requestOf_unknown hw fraction p⟩
  | resetPart p q =>
    cases hq
    rw [hfraction q rfl]
    exact ⟨by decide, rfl⟩
  | readStatus => cases hq; exact ⟨by decide, rfl⟩
  | clearAttention => cases hq; exact ⟨by decide, rfl⟩
  | setAttentionEnables => cases hq; exact ⟨by decide, rfl⟩
  | readTime => cases hq; exact ⟨by decide, rfl⟩
  | setTime => cases hq; exact ⟨by decide, rfl⟩
  | adoptReference => cases hq; exact ⟨by decide, rfl⟩
  | configureReference => cases hq; exact ⟨by decide, rfl⟩
  | readReference => cases hq; exact ⟨by decide, rfl⟩
  | defineProfile => cases hq; exact ⟨by decide, rfl⟩
  | clearProfile => cases hq; exact ⟨by decide, rfl⟩
  | readProfile => cases hq; exact ⟨by decide, rfl⟩
  | enterChange => cases hq; exact ⟨by decide, rfl⟩
  | amendChange => cases hq; exact ⟨by decide, rfl⟩
  | withdrawChange => cases hq; exact ⟨by decide, rfl⟩
  | retireChange => cases hq; exact ⟨by decide, rfl⟩
  | readChange => cases hq; exact ⟨by decide, rfl⟩
  | findChange => cases hq; exact ⟨by decide, rfl⟩
  | configureChannel => cases hq; exact ⟨by decide, rfl⟩
  | carrierOn => cases hq; exact ⟨by decide, rfl⟩
  | goOnAir => cases hq; exact ⟨by decide, rfl⟩
  | hold => cases hq; exact ⟨by decide, rfl⟩
  | resume => cases hq; exact ⟨by decide, rfl⟩
  | carrierOff => cases hq; exact ⟨by decide, rfl⟩
  | clearFault => cases hq; exact ⟨by decide, rfl⟩
  | readChannel => cases hq; exact ⟨by decide, rfl⟩
  | measureDelay => cases hq; exact ⟨by decide, rfl⟩
  | readMeasurement => cases hq; exact ⟨by decide, rfl⟩
  | _ => cases hq

/-- Settles O5: the link's tests by the case of takeRequest that each premise selects, and the bytes of a period by its first. -/
theorem requestPeriodTests : Obligations.RequestPeriodTests := by
  refine ⟨?_, ?_, ?_, ?_, fun _ _ _ _ _ => rfl⟩
  · intro code p s hunknown h hstale
    exact (if_pos hunknown).trans (congrArg Host.Outcome.next (takeUnknown_refused h hstale code))
  · intro c code p s hq hknown _ hw h hstale hlength
    obtain ⟨owner, hexec⟩ := exec_known_request hq hknown hw
    have hwrong : ¬(p.fields.length + 1 = totalLength code ∧ p.extra = 0) := fun ⟨hl, hx⟩ => hlength.elim (· hl) (· hx)
    rw [hexec, takeRequest_badLength h hstale hwrong]
    rfl
  · intro c code p s hq hw hr hstale
    obtain ⟨total, owner, x, hexec, -⟩ := exec_request hw hq
    rw [hexec, takeRequest_stale (p := { p with extra := x }) hr hstale]
  · intro c code p fraction hq hw hfraction
    obtain ⟨hzero, hspells⟩ := requestOf_request hq hw hfraction
    rw [selectPeriod_request hzero, hspells]

/-! ### Reply reads and completions -/

theorem sdoBytes_replyHeld {s : State} {reply : List Byte} (h : s.link = .replyHeld reply) (n : Nat) :
    s.sdoBytes n = reply.take n ++ List.replicate (n - reply.length) 0x00 := by
  unfold State.sdoBytes; rw [h]

theorem sdoBytes_noReply {s : State} (h : ∀ reply, s.link ≠ .replyHeld reply) (n : Nat) :
    s.sdoBytes n = ([0x00, 0xFF] : List Byte).take n ++ List.replicate (n - 2) 0x00 := by
  unfold State.sdoBytes
  cases hl : s.link with
  | idle => rfl
  | working w => rfl
  | replyHeld reply => exact absurd hl (h reply)

theorem exec_replyRead {s : State} (hr : s.running = true) (d n : Nat) (x : Fin 8) (stale : Bool) :
    exec (.replyRead d n x stale) s = .next (replyRead n stale (s.elapse d)) :=
  congrArg Host.Outcome.next (whenRunning_running hr d _)

theorem exec_requestCompletion {s : State} (hr : s.running = true) (d : Nat) :
    exec (.requestCompletion d) s = .next (requestCompletion (s.elapse d)) :=
  congrArg Host.Outcome.next (whenRunning_running hr d _)

theorem replyRead_ignored {n : Nat} {stale : Bool} (h : n = 0 ∨ stale = true) (s : State) : replyRead n stale s = s := if_pos h

theorem replyRead_held {n : Nat} (hn : 1 ≤ n) {s : State} {reply : List Byte} (h : s.link = .replyHeld reply) :
    replyRead n false s = { s with sdo := s.sdoBytes n, link := .idle } := by
  have hread : ¬(n = 0 ∨ false = true) := by simp; omega
  simp only [replyRead, hread, h, if_false]

theorem replyRead_notHeld {n : Nat} (hn : 1 ≤ n) {s : State} (h : ∀ reply, s.link ≠ .replyHeld reply) :
    replyRead n false s = { s with sdo := s.sdoBytes n } := by
  have hread : ¬(n = 0 ∨ false = true) := by simp; omega
  cases hl : s.link with
  | idle => simp only [replyRead, hread, hl, if_false]
  | working w => simp only [replyRead, hread, hl, if_false]
  | replyHeld reply => exact absurd hl (h reply)

theorem requestCompletion_formed {s : State} {reply : List Byte} (h : s.link = .working (.formed reply)) :
    requestCompletion s = { s with link := .replyHeld reply } := by
  unfold requestCompletion; rw [h]

theorem requestCompletion_adopting {s : State} {r : Ref} (h : s.link = .working (.adopting r)) : requestCompletion s = s := by
  unfold requestCompletion; rw [h]

/-- Settles O6: a reply read by whether a reply is held, a period that is ignored, and a completion by the request in WORKING. -/
theorem repliesAreReadAndHeld : Obligations.RepliesAreReadAndHeld := by
  refine ⟨?_, ?_, ?_⟩
  · intro d n x s hr hn
    constructor
    · intro reply hlink
      have hheld : (s.elapse d).link = .replyHeld reply := hlink
      rw [exec_replyRead hr, replyRead_held hn hheld, sdoBytes_replyHeld hheld]
    · intro hlink
      have hnone : ∀ reply, (s.elapse d).link ≠ .replyHeld reply := hlink
      rw [exec_replyRead hr, replyRead_notHeld hn hnone, sdoBytes_noReply hnone]
  · intro d n x stale s hr hignored
    rw [exec_replyRead hr, replyRead_ignored hignored]
  · intro d s hr
    constructor
    · intro reply hlink
      rw [exec_requestCompletion hr, requestCompletion_formed (s := s.elapse d) hlink]
    · intro r hlink
      rw [exec_requestCompletion hr, requestCompletion_adopting (s := s.elapse d) hlink]

end Sys2Proof.Machine
end

section
/-! Requests whose reply is a report or whose effect is one record (R15, R16, R32, R40 to R42, R94, R163, R170, R176): the operands read, the checks in their order, and what is written. -/

namespace Sys2Proof.Machine

/-! ### The refusal and the reply -/

/-- A refusal after the select period: the link alone says so. -/
theorem refuse_eq (code : Byte) (r : Result) (s : State) : s.refuse code r = { s with link := .working (.formed [code, r.byte]) } := rfl

theorem answer_eq (code : Byte) (r : Result) (f : List Byte) (s : State) :
    s.answer code r f = { s with link := .working (.formed (code :: r.byte :: f)) } := rfl

/-! ### Channels at large -/

theorem Four.mem_toList {α : Type} {f : Four α} {x : α} : x ∈ f.toList ↔ ∃ n : Fin 4, f.get n = x := by
  constructor
  · intro h
    simp only [Four.toList, List.mem_cons, List.not_mem_nil, or_false] at h
    rcases h with rfl | rfl | rfl | rfl
    · exact ⟨0, rfl⟩
    · exact ⟨1, rfl⟩
    · exact ⟨2, rfl⟩
    · exact ⟨3, rfl⟩
  · rintro ⟨n, rfl⟩
    match n with
    | 0 => exact List.mem_cons_self
    | 1 => exact List.mem_cons_of_mem _ List.mem_cons_self
    | 2 => exact List.mem_cons_of_mem _ (List.mem_cons_of_mem _ List.mem_cons_self)
    | 3 => exact List.mem_cons_of_mem _ (List.mem_cons_of_mem _ (List.mem_cons_of_mem _ List.mem_cons_self))

theorem any_chans_iff {s : State} {p : Channel → Bool} : s.chans.toList.any p = true ↔ ∃ n : Fin 4, p (s.chan n) = true := by
  rw [List.any_eq_true]
  constructor
  · rintro ⟨c, hc, hp⟩
    obtain ⟨n, rfl⟩ := Four.mem_toList.mp hc
    exact ⟨n, hp⟩
  · rintro ⟨n, hp⟩
    exact ⟨_, Four.mem_toList.mpr ⟨n, rfl⟩, hp⟩

theorem ChannelState.holdsTime_iff {st : ChannelState} : st.holdsTime = true ↔ st = .onAir ∨ st = .cued ∨ st = .resuming := by
  cases st <;> simp [ChannelState.holdsTime]

/-- Some channel keeps station time from being placed (R8, R15, R32). -/
theorem anyHoldsTime_iff {s : State} :
    s.anyHoldsTime = true ↔ ∃ n : Fin 4, (s.chan n).state = .onAir ∨ (s.chan n).state = .cued ∨ (s.chan n).state = .resuming := by
  simp only [State.anyHoldsTime, any_chans_iff, ChannelState.holdsTime_iff]

theorem anyInService_iff {s : State} : s.anyInService = true ↔ ∃ n : Fin 4, (s.chan n).state.inService = true := any_chans_iff

theorem inServiceUse_iff {s : State} {i : Fin 4} :
    s.inServiceUse i = true ↔ ∃ n : Fin 4, (s.chan n).cfg.link = i ∧ (s.chan n).state.inService = true := by
  simp only [State.inServiceUse, any_chans_iff, Bool.and_eq_true, beq_iff_eq]

theorem linked_iff {s : State} {i : Fin 4} : s.linked i = true ↔ ∃ n : Fin 4, (s.chan n).cfg.link = i := by
  simp only [State.linked, any_chans_iff, beq_iff_eq]

/-! ### READ TIME -/

@[simp] theorem handed_holdoverDuration (p : Period) (s : State) : (s.handed p).holdoverDuration = s.holdoverDuration := rfl

theorem exec_readTime {s : State} (h : s.listens) (d : Nat) :
    exec (.readTime (.of d [])) s = .next (ownReadTime [] (s.handed (.of d []))) :=
  congrArg Host.Outcome.next (takeRequest_of h rfl)

/-- Settles O12: the time fields by whether there is station time; the holdover duration by the state and the holdover start. -/
theorem readTimeReports : Obligations.ReadTimeReports := by
  intro d s h p time duration
  have htime : (match s.tb.time with
      | some u =>
        let c := civilOf (u.minute : Int)
        be16 c.year ++ be8 c.month ++ be8 c.day ++ be8 c.hour ++ be8 c.minute ++ be8 u.second ++ be24 (s.handed p).phase ++ be8 c.weekday
      | none => List.replicate 11 0) = time := by
    simp only [time]
    cases s.tb.time with
    | none => rfl
    | some u => rfl
  have hduration : s.holdoverDuration = duration := rfl
  rw [exec_readTime h]
  have hfields : (s.handed p).timeFields = time ++ be8 s.tb.state.code ++ be8 s.tb.grade ++ beBool s.tb.gradeChanged ++
      be32s s.tb.phaseError ++ be32 duration ++ be8 s.ret.century := by
    rw [← htime, ← hduration]
    rfl
  show Host.Outcome.next (State.answer 0x10 .done (s.handed p).timeFields { s.handed p with tb := { (s.handed p).tb with gradeChanged := false } }) = _
  rw [hfields]
  rfl

/-! ### ADOPT REFERENCE -/

theorem exec_adoptReference {s : State} (h : s.listens) (d : Nat) (b : Byte) :
    exec (.adoptReference (.of d [b])) s = .next (ownAdoptReference [b] (s.handed (.of d [b]))) :=
  congrArg Host.Outcome.next (takeRequest_of h rfl)

theorem ownAdoptReference_named {b : Byte} {r : Ref} (hb : ref? b = some r) (s : State) : ownAdoptReference [b] s =
    if (s.ref r).state ≠ .qualified then s.refuse 0x12 .wrongState
    else if s.anyHoldsTime then s.refuse 0x12 .channelsOnAir
    else { s with link := .working (.adopting r) } := by
  simp only [ownAdoptReference, hb]

/-- Settles O17: the byte names a reference or none; then the reference's state, then the channels. -/
theorem adoptReferenceWaits : Obligations.AdoptReferenceWaits := by
  intro d b s h p r held
  have hheld : (s.handed p).anyHoldsTime = true ↔ held := anyHoldsTime_iff
  refine ⟨fun hb => ?_, fun hb hq => ?_, fun hb hq hh => ?_, fun hb hq hh => ?_⟩
  · rw [exec_adoptReference h]
    simp only [ownAdoptReference, ref?_of_two_le hb]
    rfl
  · rw [exec_adoptReference h, ownAdoptReference_named (ref?_of_le_one hb), State.ref_handed, if_pos hq]
    rfl
  · rw [exec_adoptReference h, ownAdoptReference_named (ref?_of_le_one hb), State.ref_handed, if_neg (not_not_intro hq),
      if_pos (hheld.mpr hh)]
    rfl
  · rw [exec_adoptReference h, ownAdoptReference_named (ref?_of_le_one hb), State.ref_handed, if_neg (not_not_intro hq),
      if_neg (mt hheld.mp hh)]

/-! ### The profiles -/

theorem exec_defineProfile {s : State} (h : s.listens) (d : Nat) (i label offset summer : Byte) :
    exec (.defineProfile (.of d [i, label, offset, summer])) s =
      .next (ownDefineProfile [i, label, offset, summer] (s.handed (.of d [i, label, offset, summer]))) :=
  congrArg Host.Outcome.next (takeRequest_of h rfl)

theorem ownDefineProfile_refused {i label offset summer : Byte}
    (hbad : ∀ k l o f, fin4? i = some k → fin4? label = some l → offset? offset = some o → yesNo? summer ≠ some f) (s : State) :
    ownDefineProfile [i, label, offset, summer] s = s.refuse 0x20 .badParameter := by
  simp only [ownDefineProfile]

theorem ownDefineProfile_accepted {i label offset summer : Byte} {k l : Fin 4} {o : Int} {f : Bool} (hk : fin4? i = some k)
    (hl : fin4? label = some l) (ho : offset? offset = some o) (hf : yesNo? summer = some f) (s : State) :
    ownDefineProfile [i, label, offset, summer] s =
      if s.inServiceUse k then s.refuse 0x20 .profileInUse
      else (s.setProfile k { defined := true, labelCode := l, offset := o, summer := f }).answer 0x20 .done [] := by
  simp only [ownDefineProfile, hk, hl, ho, hf]

/-- Settles O24: the four operands in their values or not, and then whether a channel in service links the profile. -/
theorem defineProfileWrites : Obligations.DefineProfileWrites := by
  intro d i label offset summer s h p good inUse
  have hread : good → ∀ k : Fin 4, k.val = i.toNat → ownDefineProfile [i, label, offset, summer] (s.handed p) =
      if (s.handed p).inServiceUse k then (s.handed p).refuse 0x20 .profileInUse
      else ((s.handed p).setProfile k
        { defined := true, labelCode := label.toNat, offset := offset.toInt, summer := decide (summer.toNat = 1) }).answer 0x20 .done [] := by
    rintro ⟨-, hlabel, hlow, hhigh, hsummer⟩ k hk
    exact ownDefineProfile_accepted (l := ⟨label.toNat, by omega⟩) (fin4?_eq_some_iff.mpr hk) (fin4?_eq_some_iff.mpr rfl)
      (offset?_eq_some_iff.mpr ⟨⟨hlow, hhigh⟩, rfl⟩) (yesNo?_eq_some_iff.mpr ⟨hsummer, rfl⟩) _
  have huse : ∀ k : Fin 4, k.val = i.toNat → ((s.handed p).inServiceUse k = true ↔ inUse) := fun k hk => by
    rw [inServiceUse_iff]
    exact exists_congr fun n => and_congr_left fun _ => Fin.ext_iff.trans (by rw [hk]; rfl)
  refine ⟨fun hbad => ?_, fun hgood huse' => ?_, fun hgood hfree k hk => ?_⟩
  · rw [exec_defineProfile h, ownDefineProfile_refused fun k l o f hk hl ho hf => hbad ?_]
    · rfl
    · have hk' := fin4?_eq_some_iff.mp hk
      have hl' := fin4?_eq_some_iff.mp hl
      obtain ⟨⟨hlow, hhigh⟩, -⟩ := offset?_eq_some_iff.mp ho
      obtain ⟨hsummer, -⟩ := yesNo?_eq_some_iff.mp hf
      exact ⟨by omega, by omega, hlow, hhigh, hsummer⟩
  · obtain ⟨hi, -⟩ := id hgood
    have hk : (⟨i.toNat, by omega⟩ : Fin 4).val = i.toNat := rfl
    rw [exec_defineProfile h, hread hgood _ hk, if_pos ((huse _ hk).mpr huse')]
    rfl
  · rw [exec_defineProfile h, hread hgood k hk, if_neg (mt (huse k hk).mp hfree)]
    rfl

theorem exec_clearProfile {s : State} (h : s.listens) (d : Nat) (i : Byte) :
    exec (.clearProfile (.of d [i])) s = .next (ownClearProfile [i] (s.handed (.of d [i]))) :=
  congrArg Host.Outcome.next (takeRequest_of h rfl)

/-- The entry is an OFFSET CHANGE for the profile in any state but DONE (R42). -/
def Entry.pendingFor (i : Fin 4) (e : Entry) : Bool :=
  match e.payload with
  | .offsetChange t _ _ => t == i && e.state != .done
  | .leapInsert | .leapDelete | .interruption _ _ | .advisory _ _ => false

theorem Entry.pendingFor_iff {i : Fin 4} {e : Entry} :
    e.pendingFor i = true ↔ e.state ≠ .done ∧ ∃ o f, e.payload = .offsetChange i o f := by
  unfold Entry.pendingFor
  cases e.payload with
  | offsetChange t o f => simp [and_comm]
  | _ => simp

theorem pendingCount_eq (s : State) (i : Fin 4) : s.pendingCount i = s.cal.entries.countP (Entry.pendingFor i) := rfl

theorem pendingCount_pos_iff {s : State} {i : Fin 4} :
    0 < s.pendingCount i ↔ ∃ e ∈ s.cal.entries, e.state ≠ .done ∧ ∃ o f, e.payload = .offsetChange i o f := by
  rw [pendingCount_eq, List.countP_pos_iff]
  simp only [Entry.pendingFor_iff]

theorem ownClearProfile_accepted {i : Byte} {k : Fin 4} (hk : fin4? i = some k) (s : State) : ownClearProfile [i] s =
    if s.linked k || decide (0 < s.pendingCount k) then s.refuse 0x21 .profileInUse else (s.setProfile k .unused).answer 0x21 .done [] := by
  simp only [ownClearProfile, hk]

/-- Settles O25: the byte names a profile or none; a named one is linked or targeted, or it is cleared. -/
theorem clearProfileClears : Obligations.ClearProfileClears := by
  intro d i s h p linked targeted
  have huse : ∀ k : Fin 4, k.val = i.toNat →
      (((s.handed p).linked k || decide (0 < (s.handed p).pendingCount k)) = true ↔ linked ∨ targeted) := fun k hk => by
    rw [Bool.or_eq_true, decide_eq_true_iff, linked_iff, pendingCount_pos_iff]
    refine or_congr (exists_congr fun n => Fin.ext_iff.trans (by rw [hk]; rfl)) (exists_congr fun e => and_congr_right fun _ =>
      and_congr_right fun _ => ⟨fun ⟨o, f, he⟩ => ⟨k, o, f, he, hk⟩, fun ⟨k', o, f, he, hk'⟩ => ⟨o, f, ?_⟩⟩)
    rw [he, Fin.ext (hk'.trans hk.symm)]
  refine ⟨fun hi => ?_, fun hi hused => ?_, fun hi hl ht k hk => ?_⟩
  · rw [exec_clearProfile h]
    simp only [ownClearProfile, fin4?_eq_none_iff.mpr hi]
    rfl
  · have hk : (⟨i.toNat, by omega⟩ : Fin 4).val = i.toNat := rfl
    rw [exec_clearProfile h, ownClearProfile_accepted (fin4?_eq_some_iff.mpr hk), if_pos ((huse _ hk).mpr hused)]
    rfl
  · rw [exec_clearProfile h, ownClearProfile_accepted (fin4?_eq_some_iff.mpr hk),
      if_neg (mt (huse k hk).mp (not_or_intro hl ht))]
    rfl

theorem exec_readProfile {s : State} (h : s.listens) (d : Nat) (i : Byte) :
    exec (.readProfile (.of d [i])) s = .next (ownReadProfile [i] (s.handed (.of d [i]))) :=
  congrArg Host.Outcome.next (takeRequest_of h rfl)

theorem beBool_eq (b : Bool) : beBool b = if b then [1] else [0] := by cases b <;> rfl

/-- Settles O26: the byte names a profile or none; the pending count is the length of the entries counted. -/
theorem readProfileReports : Obligations.ReadProfileReports := by
  intro d i s h p
  refine ⟨fun hi => ?_, fun k hk => ?_⟩
  · rw [exec_readProfile h]
    simp only [ownReadProfile, fin4?_eq_none_iff.mpr hi]
    rfl
  · intro x pending
    have hpending : (s.handed p).pendingCount k = pending := by
      rw [pendingCount_eq, List.countP_eq_length_filter]
      refine congrArg List.length (List.filter_congr fun e _ => ?_)
      unfold Entry.pendingFor
      cases e.payload with
      | offsetChange t o f => exact congrArg₂ and (beq_eq_decide t k) (congrArg not (beq_eq_decide e.state .done))
      | _ => rfl
    rw [exec_readProfile h]
    simp only [ownReadProfile, fin4?_eq_some_iff.mpr hk]
    have hfields : (s.handed p).profileFields k = beBool x.defined ++ be8 x.labelCode ++ be8s x.offset ++ beBool x.summer ++ be8 pending := by
      rw [← hpending]; rfl
    rw [hfields, answer_eq, beBool_eq, beBool_eq]
    rfl

/-! ### READ CHANGE -/

theorem exec_readChange {s : State} (h : s.listens) (d : Nat) (hi lo : Byte) :
    exec (.readChange (.of d [hi, lo])) s = .next (ownReadChange [hi, lo] (s.handed (.of d [hi, lo]))) :=
  congrArg Host.Outcome.next (takeRequest_of h rfl)

theorem ringPosition_absent {ring : List Nat} {i : Nat} (h : i ∉ ring) : ringPosition ring i = 0 := by
  have hnone : ring.findIdx? (fun x => x == i) = none := by
    rw [List.findIdx?_eq_none_iff]
    intro x hx
    simp only [beq_eq_false_iff_ne]
    rintro rfl
    exact h hx
  rw [ringPosition, hnone]

/-- A ring position above 0 is the place at which the ident stands (R63). -/
theorem ringPosition_present {ring : List Nat} {i : Nat} (h : i ∈ ring) :
    1 ≤ ringPosition ring i ∧ ring[ringPosition ring i - 1]? = some i := by
  cases hf : ring.findIdx? (fun x => x == i) with
  | none =>
    rw [List.findIdx?_eq_none_iff] at hf
    exact absurd (hf i h) (by simp)
  | some k =>
    obtain ⟨hk, hx, -⟩ := List.findIdx?_eq_some_iff_getElem.mp hf
    have hpos : ringPosition ring i = k + 1 := by rw [ringPosition, hf]
    rw [hpos]
    refine ⟨by omega, ?_⟩
    rw [Nat.add_sub_cancel, List.getElem?_eq_getElem hk, beq_iff_eq.mp hx]

/-- Settles O32: the ident finds its entry or none; the position by whether the ring holds the ident. -/
theorem readChangeReports : Obligations.ReadChangeReports := by
  intro d hi lo s h hsound p
  refine ⟨fun hnone => ?_, fun e he hident => ?_⟩
  · have hfind : (s.handed (.of d [hi, lo])).findEntry (word16 hi lo) = none := findEntry_eq_none_iff.mpr hnone
    rw [exec_readChange h]
    simp only [ownReadChange, hfind]
    rfl
  · intro payload at_
    have hfind : (s.handed (.of d [hi, lo])).findEntry (word16 hi lo) = some e := by
      rw [← hident]; exact findEntry_ident (s := s.handed (.of d [hi, lo])) hsound.holds.idents he
    have hpayload : e.payload.bytes = payload := by
      simp only [payload]
      cases e.payload with
      | offsetChange t o f => cases f <;> rfl
      | _ => rfl
    have hexec : exec (.readChange p) s = .next ((s.handed p).answer 0x34 .done (e.fields s.cal.ring)) := by
      rw [exec_readChange h]
      simp only [ownReadChange, hfind]
      rfl
    refine ⟨ringPosition s.cal.ring e.ident, ?_, ?_⟩
    · by_cases hring : e.ident ∈ s.cal.ring
      · exact .inr (ringPosition_present hring)
      · exact .inl ⟨hring, ringPosition_absent hring⟩
    · rw [hexec, ← hpayload]
      rfl

/-! ### The meter's requests -/

theorem exec_measureDelay {s : State} (h : s.listens) (d : Nat) (b mode apply : Byte) :
    exec (.measureDelay (.of d [b, mode, apply])) s = .next (ownMeasureDelay [b, mode, apply] (s.handed (.of d [b, mode, apply]))) :=
  congrArg Host.Outcome.next (takeRequest_of h rfl)

theorem exec_readMeasurement {s : State} (h : s.listens) (d : Nat) (b : Byte) :
    exec (.readMeasurement (.of d [b])) s = .next (ownReadMeasurement [b] (s.handed (.of d [b]))) :=
  congrArg Host.Outcome.next (takeRequest_of h rfl)

theorem ownMeasureDelay_refused {b mode apply : Byte}
    (hbad : ∀ n x y, fin4? b = some n → yesNo? mode = some x → yesNo? apply ≠ some y) (s : State) :
    ownMeasureDelay [b, mode, apply] s = s.refuse 0x48 .badParameter := by
  simp only [ownMeasureDelay]

theorem ownMeasureDelay_read {b mode apply : Byte} {n : Fin 4} {x y : Bool} (hn : fin4? b = some n) (hx : yesNo? mode = some x)
    (hy : yesNo? apply = some y) (s : State) : ownMeasureDelay [b, mode, apply] s =
      if s.meter.working.isSome then s.refuse 0x48 .meterBusy
      else if ((s.chan n).state = .carrier ∨ (s.chan n).state = .onAir) ∧ s.tb.state ≠ .unset then
        ({ s with meter := { s.meter with working := some (Working.fresh n x y) } }).answer 0x48 .done []
      else s.refuse 0x48 .wrongState := by
  simp only [ownMeasureDelay, hn, hx, hy]

/-- Settles O53: MEASURE DELAY by its checks in their order; READ MEASUREMENT by the number read, the meter's state and the result held. -/
theorem meterRequests : Obligations.MeterRequests := by
  constructor
  · intro d b mode apply s h p good refused
    have hread : good → ∀ n : Fin 4, n.val = b.toNat → ownMeasureDelay [b, mode, apply] (s.handed p) = _ :=
      fun ⟨_, hmode, happly⟩ n hn => ownMeasureDelay_read (fin4?_eq_some_iff.mpr hn) (yesNo?_eq_some_iff.mpr ⟨hmode, rfl⟩)
        (yesNo?_eq_some_iff.mpr ⟨happly, rfl⟩) (s.handed p)
    refine ⟨fun hbad => ?_, fun hgood hbusy => ?_, fun hgood hidle n hn => ?_⟩
    · show exec _ s = _
      rw [exec_measureDelay h, ownMeasureDelay_refused fun n x y hn hx hy => hbad ?_]
      · rfl
      · have hn' := fin4?_eq_some_iff.mp hn
        obtain ⟨hmode, -⟩ := yesNo?_eq_some_iff.mp hx
        obtain ⟨happly, -⟩ := yesNo?_eq_some_iff.mp hy
        exact ⟨by omega, hmode, happly⟩
    · show exec _ s = _
      obtain ⟨hb, -⟩ := id hgood
      have hsome : (s.handed p).meter.working.isSome = true := Option.isSome_iff_ne_none.mpr hbusy
      rw [exec_measureDelay h, hread hgood ⟨b.toNat, by omega⟩ rfl, if_pos hsome]
      rfl
    · have hnone : ¬(s.handed p).meter.working.isSome = true := by
        rw [State.handed_meter, hidle]; exact Bool.false_ne_true
      refine ⟨fun hready => ?_, fun hready => ?_⟩
      · show exec _ s = _
        have hnot : ¬((((s.handed p).chan n).state = .carrier ∨ ((s.handed p).chan n).state = .onAir) ∧ (s.handed p).tb.state ≠ .unset) := hready
        rw [exec_measureDelay h, hread hgood n hn, if_neg hnone, if_neg hnot]
        rfl
      · have hyes : (((s.handed p).chan n).state = .carrier ∨ ((s.handed p).chan n).state = .onAir) ∧ (s.handed p).tb.state ≠ .unset := hready
        rw [exec_measureDelay h, hread hgood n hn, if_neg hnone, if_pos hyes]
        rfl
  · intro d b s h p flight
    refine ⟨fun hb => ?_, fun n hn => ?_⟩
    · rw [exec_readMeasurement h]
      simp only [ownReadMeasurement, fin4?_eq_none_iff.mpr hb]
      rfl
    · intro result
      have hflight : (match s.meter.working with
          | none => [0, 0xFF, 0]
          | some w => [1] ++ be8 w.channel ++ be8 w.taken : List Byte) = flight := rfl
      have hresult : beMeterResult (s.meter.results.get n) = result := by
        simp only [result]
        cases s.meter.results.get n with
        | none => rfl
        | some r => rfl
      have hfields : (s.handed p).measurementFields n = flight ++ result := by
        rw [← hresult]; rfl
      rw [exec_readMeasurement h]
      simp only [ownReadMeasurement, fin4?_eq_some_iff.mpr hn]
      rw [hfields]
      rfl

/-! ### Run seconds, holdover bands, history times -/

theorem holdoverDuration_of {s : State} {t0 : RunSec} (hs : s.tb.state = .holdover) (ht : s.tb.holdoverStart = some t0) :
    s.holdoverDuration = (s.ret.runSeconds - t0).toNat := by
  unfold State.holdoverDuration; rw [hs, ht]; rfl

theorem exec_holdoverBandReached {s : State} (hr : s.running = true) : exec .holdoverBandReached s = .next s.deriveGrade :=
  congrArg Host.Outcome.next (whenRunning_running hr 0 _)

theorem deriveGrade_same {s : State} (h : s.tb.grade = gradeOf s.tb.state s.tb.phaseError s.holdoverDuration) : s.deriveGrade = s :=
  if_pos h.symm

theorem deriveGrade_new {s : State} (h : s.tb.grade ≠ gradeOf s.tb.state s.tb.phaseError s.holdoverDuration) : s.deriveGrade =
    ({ s with tb := { s.tb with grade := gradeOf s.tb.state s.tb.phaseError s.holdoverDuration, gradeChanged := true } }).raise .gradeChanged :=
  if_neg (Ne.symm h)

/-- Settles O15: the grade of the band against the grade held; the run second by the marker and by whether the part runs. -/
theorem runSecondsAndHoldoverBands : Obligations.RunSecondsAndHoldoverBands := by
  constructor
  · intro t0 s hr hs ht duration g
    have hg : gradeOf s.tb.state s.tb.phaseError s.holdoverDuration = g := by
      rw [hs, holdoverDuration_of hs ht]; rfl
    rw [exec_holdoverBandReached hr]
    split
    · next h => rw [deriveGrade_same (h.trans hg.symm)]
    · next h =>
      rw [deriveGrade_new fun heq => h (heq.trans hg), hg]
      rfl
  · intro d s
    refine ⟨fun hm hr => ?_, fun hm hr => ?_, fun hm hr => ?_⟩
    · have hmarker : (s.elapse d).ret.marker = true := hm
      exact congrArg Host.Outcome.next ((congrArg runSecond (whenRunning_running hr d id)).trans (if_pos hmarker))
    · exact congrArg Host.Outcome.next ((congrArg runSecond (whenRunning_stopped hr d id)).trans (if_pos hm))
    · exact congrArg Host.Outcome.next ((congrArg runSecond (whenRunning_stopped hr d id)).trans (if_neg (by rw [hm]; exact Bool.false_ne_true)))

/-- Settles O52: the running part's history of the channel is cut to the young times. -/
theorem historyTimesExpire : Obligations.HistoryTimesExpire := fun _ _ hr =>
  congrArg Host.Outcome.next ((whenRunning_running hr 0 _).trans (if_pos hr))

/-! ### A cold start and the state right after reset -/

/-- Settles O56: POWER_UP takes the start, a cold one without the marker, or RESET_N holds it back. -/
theorem powerUpCold : Obligations.PowerUpCold := by
  intro q high s hvdd hmarker
  have hoff : ¬s.vdd = true := by rw [hvdd]; exact Bool.false_ne_true
  constructor
  · intro hreset
    have hstart : powerUp q high s = State.coldStart q { s with vdd := true, fselPin := high } := by
      have hcold : ¬({ s with vdd := true, fselPin := high } : State).ret.marker = true := by
        rw [show ({ s with vdd := true, fselPin := high } : State).ret.marker = false from hmarker]; exact Bool.false_ne_true
      exact (if_neg hoff).trans ((if_pos hreset).trans (if_neg hcold))
    refine congrArg Host.Outcome.next (hstart.trans ?_)
    unfold State.coldStart
    rw [show ({ s with vdd := true, fselPin := high } : State).resetN = true from hreset]
    rfl
  · intro hreset
    exact congrArg Host.Outcome.next ((if_neg hoff).trans (if_neg (by rw [hreset]; exact Bool.false_ne_true)))

end Sys2Proof.Machine
end

section
/-! The state right after reset: the cold values of every block, and a sound state. -/

namespace Sys2Proof.Machine

@[simp] theorem reset_chan (n : Fin 4) : State.reset.chan n = Channel.start ChannelConfig.cold [] false false := Four.get_all _ n

theorem reset_result (n : Fin 4) : State.reset.meter.results.get n = none := Four.get_all _ n

theorem reset_profile (i : Fin 4) : State.reset.profiles.get i = Profile.unused := Four.get_all _ i

theorem reset_carrierPin (n : Fin 4) : State.reset.carrierPin n = false := by
  unfold State.carrierPin
  rw [reset_chan]
  rfl

theorem reset_tb_sound : State.reset.tb.sound := by
  simp [Timebase.sound, State.reset, Timebase.start]

/-- A channel right after a cold start is sound: OFF, nothing held, its configuration legal. -/
theorem coldChannel_sound (faultHigh monitorHigh : Bool) : (Channel.start ChannelConfig.cold [] faultHigh monitorHigh).Sound :=
  ⟨⟨ChannelConfig.cold_legal, ChannelConfig.legal_drive_le ChannelConfig.cold_legal, nofun, Nat.zero_le _, Nat.zero_le _⟩,
    by simp [Channel.start], nofun, nofun, by simp [Channel.start]⟩

theorem reset_keyingSafe : State.reset.keyingSafe := by
  intro n hkeyed
  rw [reset_chan] at hkeyed
  simp [Channel.start] at hkeyed

/-- Settles O60: the fields as the cold values give them, the soundness block by block. -/
theorem resetIsColdAndSound : Obligations.ResetIsColdAndSound := by
  have hcal : State.reset.cal = .empty := rfl
  refine ⟨rfl, rfl, ⟨rfl, rfl, rfl, rfl, rfl, rfl, rfl⟩, ⟨rfl, rfl, rfl, rfl⟩, fun r => ?_, rfl, rfl, rfl, rfl, reset_profile, rfl, fun n => ?_,
    rfl, rfl, rfl, rfl, rfl, ?_, ?_, reset_tb_sound, .inl ⟨rfl, rfl⟩, fun n => ?_, reset_keyingSafe⟩
  · cases r <;> exact ⟨rfl, rfl, rfl, rfl, rfl, rfl, rfl, rfl, rfl, rfl, rfl, rfl, rfl, rfl, rfl, rfl⟩
  · rw [reset_chan]
    exact ⟨rfl, rfl, reset_carrierPin n, rfl, rfl, rfl, rfl, rfl, rfl, rfl, rfl, rfl, rfl, rfl, rfl, rfl, rfl, rfl, reset_result n⟩
  · rw [hcal]; exact Calendar.empty_sound
  · rw [hcal]; exact fun e he => (List.not_mem_nil he).elim
  · rw [reset_chan]
    exact ⟨(coldChannel_sound false false).bounded, (coldChannel_sound false false).fits⟩

end Sys2Proof.Machine
end

section
/-! The channel requests (R141 to R157, R166): the channel they name, a change of state with the abort of the channel's measurement, and each request by its checks in their order. -/

namespace Sys2Proof.Machine

/-! ### The channel a request names -/

theorem ownChannel_named {b : Byte} {n : Fin 4} (h : n.val = b.toNat) (code : Byte) (act : Fin 4 → State → State) (s : State) :
    ownChannel code act [b] s = act n s := by
  simp only [ownChannel, fin4?_eq_some_iff.mpr h]

theorem ownChannel_unnamed {b : Byte} (h : 4 ≤ b.toNat) (code : Byte) (act : Fin 4 → State → State) (s : State) :
    ownChannel code act [b] s = s.refuse code .badParameter := by
  simp only [ownChannel, fin4?_eq_none_iff.mpr h]

/-- A channel request that the link takes is its act on the channel named. -/
theorem takeRequest_channel {s : State} (h : s.listens) {b : Byte} {n : Fin 4} (hn : n.val = b.toNat) (d : Nat) (code : Byte)
    (act : Fin 4 → State → State) :
    s.takeRequest code 2 (ownChannel code act) (.of d [b]) = act n (s.handed (.of d [b])) :=
  (takeRequest_of h rfl).trans (ownChannel_named hn code act _)

/-! ### A change of state -/

/-- The meter and the flags after the abort of the measurement `w` of channel `n` (R175). -/
structure State.Aborted (n : Fin 4) (w : Working) (s t : State) : Prop where
  idle : t.meter.working = none
  flags : t.att.flags = s.att.flags ||| 0x0040
  others : ∀ m, m ≠ n → t.meter.results.get m = s.meter.results.get m
  result : ∃ r, t.meter.results.get n = some r ∧ r.outcome = .aborted ∧ r.count = w.count ∧ r.applied = false

/-- Channel `n` becomes `c`; a measurement of it is aborted, and nothing else changes. -/
structure State.Moves (n : Fin 4) (c : Channel) (s t : State) : Prop where
  frame : t = { s with chans := t.chans, meter := t.meter, att := { s.att with flags := t.att.flags } }
  here : t.chan n = c
  others : ∀ m, m ≠ n → t.chan m = s.chan m
  unmeasured : (∀ w ∈ s.meter.working, w.channel ≠ n) → t.meter = s.meter ∧ t.att = s.att
  aborted : ∀ w, s.meter.working = some w → w.channel = n → s.Aborted n w t

/-- The channel changed further. -/
theorem State.Moves.modifyChan {n : Fin 4} {c : Channel} {s t : State} (h : s.Moves n c t) (f : Channel → Channel) :
    s.Moves n (f c) (t.modifyChan n f) where
  frame := congrArg (fun u : State => { u with chans := (t.modifyChan n f).chans }) h.frame
  here := by rw [State.chan_modifyChan, if_pos rfl, h.here]
  others m hm := by rw [State.chan_modifyChan, if_neg hm, h.others m hm]
  unmeasured := h.unmeasured
  aborted w hw hn := ⟨(h.aborted w hw hn).idle, (h.aborted w hw hn).flags, (h.aborted w hw hn).others, (h.aborted w hw hn).result⟩

/-- The channel changed before. -/
theorem State.Moves.of_modifyChan {n : Fin 4} {c : Channel} {s t : State} {f : Channel → Channel} (h : (s.modifyChan n f).Moves n c t) :
    s.Moves n c t where
  frame := h.frame
  here := h.here
  others m hm := by rw [h.others m hm, State.chan_modifyChan, if_neg hm]
  unmeasured := h.unmeasured
  aborted w hw hn := ⟨(h.aborted w hw hn).idle, (h.aborted w hw hn).flags, (h.aborted w hw hn).others, (h.aborted w hw hn).result⟩

theorem abortMeasurementOn_unmeasured {n : Fin 4} {s : State} (h : ∀ w ∈ s.meter.working, w.channel ≠ n) : s.abortMeasurementOn n = s := by
  unfold State.abortMeasurementOn
  split
  · rfl
  · next w hw => rw [if_neg (h w hw)]

theorem abortMeasurementOn_aborted {n : Fin 4} {w : Working} {s : State} (hw : s.meter.working = some w) (hn : w.channel = n) :
    s.Aborted n w (s.abortMeasurementOn n) := by
  have habort : s.abortMeasurementOn n = (s.setChan w.channel (s.chan w.channel).cutShort).closeMeter w .aborted false := by
    simp only [State.abortMeasurementOn, State.abortMeasurement, hw, hn, if_true, Channel.cutShort]
  rw [habort]
  subst hn
  exact ⟨rfl, rfl, fun m hm => Four.get_set_other _ hm _, _, Four.get_set_same _ _ _, rfl, rfl, rfl⟩

theorem abortMeasurementOn_flagsOnly (n : Fin 4) (s : State) :
    (s.abortMeasurementOn n).att = { s.att with flags := (s.abortMeasurementOn n).att.flags } := by
  fun_cases State.abortMeasurementOn
  case case2 => fun_cases State.abortMeasurement <;> rfl
  all_goals rfl

theorem moveChannel_moves {n : Fin 4} {st : ChannelState} {s : State} (h : (s.chan n).state ≠ st) :
    s.Moves n ((s.chan n).enter st) (s.moveChannel n st) := by
  have hmove : s.moveChannel n st = (s.modifyChan n (Channel.enter st)).abortMeasurementOn n := if_neg h
  have hframe : s.moveChannel n st = { s with
      chans := (s.moveChannel n st).chans, meter := (s.moveChannel n st).meter
      att := { s.att with flags := (s.moveChannel n st).att.flags } } := by
    conv_lhs => rw [moveChannel_frame]
    rw [hmove, abortMeasurementOn_flagsOnly]
    rfl
  refine ⟨hframe, ?_, fun m hm => ?_, fun hun => ?_, fun w hw hn => ?_⟩
  · rw [moveChannel_chan_same, Channel.moved_enter h]
  · rw [moveChannel_chan, if_neg hm]
  · rw [hmove, abortMeasurementOn_unmeasured (s := s.modifyChan n (Channel.enter st)) hun]
    exact ⟨rfl, rfl⟩
  · have haborted := abortMeasurementOn_aborted (s := s.modifyChan n (Channel.enter st)) hw hn
    rw [hmove]
    exact ⟨haborted.idle, haborted.flags, haborted.others, haborted.result⟩

theorem carrierPin_eq {s : State} (hr : s.running = true) (n : Fin 4) : s.carrierPin n = match (s.chan n).state with
    | .carrier | .cued | .onAir | .quiet | .resuming => true
    | .off | .held _ | .faulted => false := by
  unfold State.carrierPin
  rw [hr]
  rfl

/-- CHn_CARRIER of a running part whose channel has entered a state, as that state has it (R142). -/
theorem State.Moves.carrierPin {n : Fin 4} {c : Channel} {s t : State} (h : s.Moves n c t) (hr : s.running = true) :
    t.carrierPin n = match c.state with
      | .carrier | .cued | .onAir | .quiet | .resuming => true
      | .off | .held _ | .faulted => false := by
  have hrun : t.running = true := by rw [h.frame]; exact hr
  rw [carrierPin_eq hrun, h.here]

/-! ### CARRIER ON and CARRIER OFF -/

theorem exec_carrierOn {s : State} (h : s.listens) {b : Byte} {n : Fin 4} (hn : n.val = b.toNat) (d : Nat) :
    exec (.carrierOn (.of d [b])) s = .next (ownCarrierOn n (s.handed (.of d [b]))) :=
  congrArg Host.Outcome.next (takeRequest_channel h hn d 0x41 ownCarrierOn)

theorem exec_carrierOff {s : State} (h : s.listens) {b : Byte} {n : Fin 4} (hn : n.val = b.toNat) (d : Nat) :
    exec (.carrierOff (.of d [b])) s = .next (ownCarrierOff n (s.handed (.of d [b]))) :=
  congrArg Host.Outcome.next (takeRequest_channel h hn d 0x45 ownCarrierOff)

theorem Channel.spent_iff {c : Channel} : c.spent = true ↔ 4 ≤ c.history.length := by simp [Channel.spent]

theorem ownCarrierOn_accepted {n : Fin 4} {s : State} (hs : (s.chan n).state = .off) (hlen : (s.chan n).history.length < 4) :
    ownCarrierOn n s = ((s.moveChannel n .carrier).carrierOnEvent n).answer 0x41 .done [] := by
  have hspent : ¬(s.chan n).spent = true := fun h => by have := Channel.spent_iff.mp h; omega
  exact (if_neg (not_not_intro hs)).trans (if_neg hspent)

theorem carrierOnEvent_eq {n : Fin 4} {s : State} {now : RunSec} (h : s.ret.runSeconds = now) :
    s.carrierOnEvent n = s.modifyChan n fun c => { c with history := c.history ++ [now] } := by
  rw [← h]; rfl

theorem ownCarrierOn_moves {n : Fin 4} {s : State} (hs : (s.chan n).state = .off) :
    s.Moves n { (s.chan n).enter .carrier with history := (s.chan n).history ++ [s.ret.runSeconds] }
      ((s.moveChannel n .carrier).carrierOnEvent n) := by
  rw [carrierOnEvent_eq (congrArg Retention.runSeconds (moveChannel_ret n .carrier s))]
  exact (moveChannel_moves (by rw [hs]; simp)).modifyChan fun c => { c with history := c.history ++ [s.ret.runSeconds] }

theorem ownCarrierOff_accepted {n : Fin 4} {s : State} (hoff : (s.chan n).state ≠ .off) (hfaulted : (s.chan n).state ≠ .faulted) :
    ownCarrierOff n s = ((s.modifyChan n fun c => { c.undecided with onAir := none }).moveChannel n .off).answer 0x45 .done [] :=
  if_neg (not_or_intro hoff hfaulted)

theorem ownCarrierOff_moves {n : Fin 4} {s : State} (hs : (s.chan n).state ≠ .off) :
    s.Moves n (Channel.enter .off { (s.chan n).undecided with onAir := none })
      ((s.modifyChan n fun c => { c.undecided with onAir := none }).moveChannel n .off) := by
  have hchan : (s.modifyChan n fun c => { c.undecided with onAir := none }).chan n = { (s.chan n).undecided with onAir := none } := by
    rw [State.chan_modifyChan, if_pos rfl]
  have hstate : ((s.modifyChan n fun c => { c.undecided with onAir := none }).chan n).state ≠ .off := by rw [hchan]; exact hs
  have hmoves := (moveChannel_moves hstate).of_modifyChan
  rwa [hchan] at hmoves

/-- Settles O42: each request by its checks; the channel accepted has changed its state, with its measurement aborted. -/
theorem carrierOnAndOff : Obligations.CarrierOnAndOff := by
  intro d b n s h hn p c unmeasured aborted
  have hrun : (s.handed p).running = true := by obtain ⟨hr, -⟩ := h; exact hr
  have haborted : ∀ (code : Byte) (c' : Channel) (t : State), (s.handed p).Moves n c' t → aborted (t.answer code .done []) :=
    fun _ _ t hm w hw hwn =>
    ⟨(hm.aborted w hw hwn).idle, (hm.aborted w hw hwn).flags, (hm.aborted w hw hwn).others, (hm.aborted w hw hwn).result⟩
  refine ⟨fun hs => ?_, fun hs hlen => ?_, fun hs hlen => ?_, fun hs => ?_, fun hoff hfaulted => ?_⟩
  · rw [exec_carrierOn h hn]
    exact congrArg Host.Outcome.next (if_pos hs)
  · rw [exec_carrierOn h hn]
    exact congrArg Host.Outcome.next ((if_neg (not_not_intro hs)).trans (if_pos (Channel.spent_iff.mpr hlen)))
  · have hm := ownCarrierOn_moves (s := s.handed p) hs
    refine ⟨_, (exec_carrierOn h hn d).trans (congrArg Host.Outcome.next (ownCarrierOn_accepted hs hlen)),
      congrArg (State.answer 0x41 .done []) hm.frame, hm.others, hm.carrierPin hrun, hm.here, hm.unmeasured, haborted _ _ _ hm⟩
  · rw [exec_carrierOff h hn]
    exact congrArg Host.Outcome.next (if_pos hs)
  · have hm := ownCarrierOff_moves (s := s.handed p) hoff
    refine ⟨_, (exec_carrierOff h hn d).trans (congrArg Host.Outcome.next (ownCarrierOff_accepted hoff hfaulted)),
      congrArg (State.answer 0x45 .done []) hm.frame, hm.others, hm.carrierPin hrun, hm.here, hm.unmeasured, haborted _ _ _ hm⟩

/-! ### GO ON AIR -/

theorem exec_goOnAir {s : State} (h : s.listens) {b : Byte} {n : Fin 4} (hn : n.val = b.toNat) (d : Nat) :
    exec (.goOnAir (.of d [b])) s = .next (ownGoOnAir n (s.handed (.of d [b]))) :=
  congrArg Host.Outcome.next (takeRequest_channel h hn d 0x42 ownGoOnAir)

/-- Settles O44: the state, the grade, and then the channel CUED. -/
theorem goOnAirCues : Obligations.GoOnAirCues := by
  intro d b n s h hn p c
  have hrun : (s.handed p).running = true := by obtain ⟨hr, -⟩ := h; exact hr
  refine ⟨fun hs => ?_, fun hs hgrade => ?_, fun hs hgrade hsilence => ?_⟩
  · rw [exec_goOnAir h hn]
    exact congrArg Host.Outcome.next (if_pos hs)
  · rw [exec_goOnAir h hn]
    exact congrArg Host.Outcome.next ((if_neg (not_not_intro hs)).trans (if_pos hgrade))
  · have hlow : ¬(s.tb.grade = 6 ∨ c.cfg.silence ≤ s.tb.grade) := by omega
    have hstate : ((s.handed p).chan n).state ≠ .cued := by
      rw [show ((s.handed p).chan n).state = .carrier from hs]; simp
    have hm := moveChannel_moves hstate
    refine ⟨_, (exec_goOnAir h hn d).trans (congrArg Host.Outcome.next ((if_neg (not_not_intro hs)).trans (if_neg hlow))),
      congrArg (State.answer 0x42 .done []) hm.frame, hm.others, hm.carrierPin hrun, hm.here, hm.unmeasured, fun w hw hwn => ?_⟩
    exact ⟨(hm.aborted w hw hwn).idle, (hm.aborted w hw hwn).flags, (hm.aborted w hw hwn).result⟩

/-! ### HOLD -/

theorem exec_hold {s : State} (h : s.listens) {b : Byte} {n : Fin 4} (hn : n.val = b.toNat) (d : Nat) :
    exec (.hold (.of d [b])) s = .next (ownHold n (s.handed (.of d [b]))) :=
  congrArg Host.Outcome.next (takeRequest_channel h hn d 0x43 ownHold)

theorem ownHold_onAir {n : Fin 4} {s : State} (hs : (s.chan n).state = .onAir) : ownHold n s =
    if (s.chan n).holdPending then s.refuse 0x43 .wrongState
    else (s.modifyChan n fun c => { c.undecided with holdPending := true }).answer 0x43 .done [] := by
  simp only [ownHold, hs]

theorem ownHold_atOnce {n : Fin 4} {s : State} (hs : (s.chan n).state = .cued ∨ (s.chan n).state = .quiet ∨ (s.chan n).state = .resuming) :
    ownHold n s = ((s.moveChannel n (.held .host)).modifyChan n fun c =>
      { c.undecided with heldSince := some s.ret.runSeconds }).answer 0x43 .done [] := by
  rcases hs with hs | hs | hs <;> simp only [ownHold, hs]

theorem ownHold_refused {n : Fin 4} {s : State} (hs : ((s.chan n).state = .onAir ∧ (s.chan n).holdPending = true) ∨ (s.chan n).state = .off ∨
    (s.chan n).state = .carrier ∨ (∃ r, (s.chan n).state = .held r) ∨ (s.chan n).state = .faulted) :
    ownHold n s = s.refuse 0x43 .wrongState := by
  rcases hs with ⟨hs, hpending⟩ | hs | hs | ⟨r, hs⟩ | hs
  · rw [ownHold_onAir hs, if_pos hpending]
  all_goals simp only [ownHold, hs]

/-- Settles O45: hold pending ON AIR, HELD(HOST) at once in CUED, QUIET and RESUMING, and the refusal elsewhere. -/
theorem holdTakesOffTheAir : Obligations.HoldTakesOffTheAir := by
  intro d b n s h hn p c
  have hrun : (s.handed p).running = true := by obtain ⟨hr, -⟩ := h; exact hr
  refine ⟨fun hs hpending => ?_, fun hs => ?_, fun hs => ?_⟩
  · have hno : ¬((s.handed p).chan n).holdPending = true := by
      rw [show ((s.handed p).chan n).holdPending = false from hpending]; exact Bool.false_ne_true
    rw [exec_hold h hn, ownHold_onAir (s := s.handed p) hs, if_neg hno]
    rfl
  · have hstate : ((s.handed p).chan n).state ≠ .held .host := by
      rw [State.chan_handed]
      rcases hs with hs | hs | hs <;> rw [hs] <;> simp
    have hm := (moveChannel_moves hstate).modifyChan fun c => { c.undecided with heldSince := some (s.handed p).ret.runSeconds }
    exact ⟨_, (exec_hold h hn d).trans (congrArg Host.Outcome.next (ownHold_atOnce hs)), congrArg (State.answer 0x43 .done []) hm.frame, hm.others,
      hm.carrierPin hrun, hm.here, hm.unmeasured⟩
  · rw [exec_hold h hn, ownHold_refused (s := s.handed p) hs]
    rfl

/-! ### RESUME -/

theorem exec_resume {s : State} (h : s.listens) {b : Byte} {n : Fin 4} (hn : n.val = b.toNat) (d : Nat) :
    exec (.resume (.of d [b])) s = .next (ownResume n (s.handed (.of d [b]))) :=
  congrArg Host.Outcome.next (takeRequest_channel h hn d 0x44 ownResume)

theorem ownResume_notHeld {n : Fin 4} {s : State} (hs : ∀ r, (s.chan n).state ≠ .held r) : ownResume n s = s.refuse 0x44 .wrongState := by
  unfold ownResume
  split
  · next h => exact absurd h (hs _)
  · next h => exact absurd h (hs _)
  all_goals rfl

theorem ownResume_calendar {n : Fin 4} {s : State} (hs : (s.chan n).state = .held .calendar) : ownResume n s = s.refuse 0x44 .calendarHold := by
  simp only [ownResume, hs]

theorem ownResume_host {n : Fin 4} {s : State} {since : RunSec} (hs : (s.chan n).state = .held .host)
    (hsince : (s.chan n).heldSince = some since) : ownResume n s =
      if (s.ret.runSeconds - since).toNat < 120 then s.refuse 0x44 .holdTooShort
      else if (s.chan n).spent then s.refuse 0x44 .switchLimit
      else (s.startResuming n).answer 0x44 .done [] := by
  simp only [ownResume, hs, hsince, RunSec.since]

theorem startResuming_moves {n : Fin 4} {s : State} (hs : (s.chan n).state ≠ .resuming) :
    s.Moves n { (s.chan n).enter .resuming with
      resumeStart := some (s.resumeMoment n), history := (s.chan n).history ++ [s.ret.runSeconds] } (s.startResuming n) := by
  have hret : ((s.moveChannel n .resuming).modifyChan n fun c => { c with resumeStart := some (s.resumeMoment n) }).ret.runSeconds =
      s.ret.runSeconds := by
    rw [State.modifyChan_ret, moveChannel_ret]
  unfold State.startResuming
  rw [carrierOnEvent_eq hret]
  exact ((moveChannel_moves hs).modifyChan fun c => { c with resumeStart := some (s.resumeMoment n) }).modifyChan
    fun c => { c with history := c.history ++ [s.ret.runSeconds] }

theorem resumeMoment_timed {s : State} {u : UtcSecond} (h : s.tb.time = some u) (n : Fin 4) :
    s.resumeMoment n = ⟨u.minute, u.second, s.phase⟩ := by
  simp [State.resumeMoment, State.moment, h]

/-- Settles O46: HELD or not and by which reason, the 120 run seconds, the budget, and then the channel RESUMING. -/
theorem resumeAfterTheHold : Obligations.ResumeAfterTheHold := by
  intro d b n since s h hn _ p c
  have hrun : (s.handed p).running = true := by obtain ⟨hr, -⟩ := h; exact hr
  refine ⟨fun hs => ?_, fun hs => ?_, fun hs hsince hshort => ?_, fun hs hsince hlong hlen => ?_, fun hs hsince hlong hlen => ?_⟩
  · rw [exec_resume h hn, ownResume_notHeld (s := s.handed p) hs]
    rfl
  · rw [exec_resume h hn, ownResume_calendar (s := s.handed p) hs]
    rfl
  · have hshort' : ((s.handed p).ret.runSeconds - since).toNat < 120 := hshort
    rw [exec_resume h hn, ownResume_host (s := s.handed p) hs hsince, if_pos hshort']
    rfl
  · have hlong' : ¬((s.handed p).ret.runSeconds - since).toNat < 120 := not_lt.mpr hlong
    have hspent : ((s.handed p).chan n).spent = true := Channel.spent_iff.mpr hlen
    rw [exec_resume h hn, ownResume_host (s := s.handed p) hs hsince, if_neg hlong', if_pos hspent]
    rfl
  · have hlong' : ¬((s.handed p).ret.runSeconds - since).toNat < 120 := not_lt.mpr hlong
    have hspent : ¬((s.handed p).chan n).spent = true := mt Channel.spent_iff.mp (not_le.mpr hlen)
    have hstate : ((s.handed p).chan n).state ≠ .resuming := by
      rw [show ((s.handed p).chan n).state = .held .host from hs]; simp
    have hm := startResuming_moves hstate
    exact ⟨_, (s.handed p).resumeMoment n,
      (exec_resume h hn d).trans (congrArg Host.Outcome.next
        ((ownResume_host (s := s.handed p) hs hsince).trans ((if_neg hlong').trans (if_neg hspent)))),
      congrArg (State.answer 0x44 .done []) hm.frame, hm.others, hm.carrierPin hrun,
      fun u hu => resumeMoment_timed (s := s.handed p) (by rw [State.handed_tb]; exact hu) n, hm.here, hm.unmeasured⟩

end Sys2Proof.Machine
end

section
/-! CLEAR FAULT, CONFIGURE CHANNEL and READ CHANNEL, and the fault line (R141, R155 to R157, R166). -/

namespace Sys2Proof.Machine

/-! ### The fault line -/

theorem perMicro_eq (s : State) : s.perMicro = if s.tb.fselHigh then 10 else 5 := rfl

/-- The FIN count from which a line told at the level is known to stand at it (R155). -/
def FaultLine.knownFrom (high : Bool) (l : FaultLine) : Nat := if l.high = high then l.since else l.seen

/-- CHn_FAULT told to stand at a level has stood there for 10 ms exactly when the telling says so and what was told before allows it (R155). -/
theorem tellFault_settled_iff {n : Fin 4} {high : Bool} {stood : Nat} {s : State} : (s.tellFault n high stood).faultSettled n = true ↔
    10000 ≤ stood ∧ (s.chan n).faultLine.knownFrom high + 10000 * s.perMicro ≤ s.fin := by
  have hmicro : s.perMicro = 10 ∨ s.perMicro = 5 := by rw [perMicro_eq]; split <;> simp
  have hsettled : (s.tellFault n high stood).faultSettled n = true ↔
      10000 * s.perMicro ≤ s.fin - max ((s.chan n).faultLine.knownFrom high) (s.fin - stood * s.perMicro) := by
    unfold State.faultSettled
    rw [State.chan_tellFault, if_pos rfl, decide_eq_true_iff]
    rfl
  rw [hsettled]
  rcases hmicro with hmicro | hmicro <;> rw [hmicro] <;> omega

theorem faultActive_noted {n : Fin 4} {stood : Nat} {s : State} (h : (s.chan n).fault = true ∨ (s.tellFault n true stood).faultSettled n = false) :
    faultActive n stood s = s.tellFault n true stood := by
  have hcond : ((s.tellFault n true stood).chan n).fault = true ∨ (s.tellFault n true stood).faultSettled n = false := by
    rw [State.chan_tellFault, if_pos rfl]; exact h
  exact if_pos hcond

/-- The channel with the fault condition ACTIVE, its line told high (R155). -/
def State.markFault (n : Fin 4) (stood : Nat) (s : State) : State :=
  (s.tellFault n true stood).setChan n { (s.tellFault n true stood).chan n with fault := true }

theorem markFault_chan (n m : Fin 4) (stood : Nat) (s : State) : (s.markFault n stood).chan m =
    if m = n then { s.chan n with fault := true, faultLine := (s.chan n).faultLine.told true (stood * s.perMicro) s.fin } else s.chan m := by
  unfold State.markFault
  rw [State.chan_setChan]
  split
  · rw [State.chan_tellFault, if_pos rfl]
  · next h => rw [State.chan_tellFault, if_neg h]

theorem faultActive_settled {n : Fin 4} {stood : Nat} {s : State} (hfault : (s.chan n).fault = false)
    (hsettled : (s.tellFault n true stood).faultSettled n = true) : faultActive n stood s =
      if (s.chan n).state = .faulted then s.markFault n stood
      else ((s.markFault n stood).modifyChan n fun c => { c.undecided.emptyArbiter with onAir := none }).moveByEvent n .faulted := by
  have hcond : ¬(((s.tellFault n true stood).chan n).fault = true ∨ (s.tellFault n true stood).faultSettled n = false) := by
    rw [State.chan_tellFault, if_pos rfl, hsettled]
    simp [hfault]
  have hstate : ((s.tellFault n true stood).chan n).state = (s.chan n).state := by rw [State.chan_tellFault, if_pos rfl]
  refine (if_neg hcond).trans ?_
  by_cases hs : (s.chan n).state = .faulted
  · rw [if_pos hs]
    exact if_pos (hstate.trans hs)
  · rw [if_neg hs]
    exact if_neg (hstate ▸ hs)

/-- A channel that becomes FAULTED (R156). -/
theorem faultActive_moves {n : Fin 4} {stood : Nat} {s : State} (hfault : (s.chan n).fault = false)
    (hsettled : (s.tellFault n true stood).faultSettled n = true) (hs : (s.chan n).state ≠ .faulted) :
    ∃ t, faultActive n stood s = t.raise .channelEvent ∧ s.Moves n
      (Channel.enter .faulted
        { Channel.emptyArbiter (Channel.undecided { s.chan n with
            fault := true, faultLine := (s.chan n).faultLine.told true (stood * s.perMicro) s.fin }) with onAir := none }) t := by
  have hchan : ((s.markFault n stood).modifyChan n fun c => { c.undecided.emptyArbiter with onAir := none }).chan n =
      { Channel.emptyArbiter (Channel.undecided { s.chan n with
            fault := true, faultLine := (s.chan n).faultLine.told true (stood * s.perMicro) s.fin }) with onAir := none } := by
    rw [State.chan_modifyChan, if_pos rfl, markFault_chan, if_pos rfl]
  have hstate : (((s.markFault n stood).modifyChan n fun c => { c.undecided.emptyArbiter with onAir := none }).chan n).state ≠ .faulted := by
    rw [hchan]; exact hs
  have hm := moveChannel_moves hstate
  rw [hchan] at hm
  have hmark : s.markFault n stood = s.modifyChan n fun c =>
      { c with fault := true, faultLine := c.faultLine.told true (stood * s.perMicro) s.fin } := by
    have hfour : (s.markFault n stood).chans = (s.modifyChan n fun c =>
        { c with fault := true, faultLine := c.faultLine.told true (stood * s.perMicro) s.fin }).chans :=
      Four.ext_get fun m => (markFault_chan n m stood s).trans (State.chan_modifyChan n m (fun c =>
        { c with fault := true, faultLine := c.faultLine.told true (stood * s.perMicro) s.fin }) s).symm
    exact congrArg (fun chans => ({ s with chans := chans } : State)) hfour
  refine ⟨_, (faultActive_settled hfault hsettled).trans ((if_neg hs).trans (if_neg hstate)), ?_⟩
  have hm' := hm.of_modifyChan
  rw [hmark] at hm' ⊢
  exact hm'.of_modifyChan

theorem exec_faultActive {s : State} (hr : s.running = true) (d : Nat) (n : Fin 4) (stood : Nat) :
    exec (.faultActive d ⟨n, stood⟩) s = .next (faultActive n stood (s.elapse d)) :=
  congrArg Host.Outcome.next (whenRunning_running hr d _)

theorem exec_faultInactive {s : State} (hr : s.running = true) (d : Nat) (n : Fin 4) (stood : Nat) :
    exec (.faultInactive d ⟨n, stood⟩) s = .next (faultInactive n stood (s.elapse d)) :=
  congrArg Host.Outcome.next (whenRunning_running hr d _)

theorem faultInactive_settled {n : Fin 4} {stood : Nat} {s : State} (h : (s.tellFault n false stood).faultSettled n = true) :
    faultInactive n stood s = (s.tellFault n false stood).modifyChan n fun c => { c with fault := false } := if_pos h

theorem faultInactive_noted {n : Fin 4} {stood : Nat} {s : State} (h : ¬(s.tellFault n false stood).faultSettled n = true) :
    faultInactive n stood s = s.tellFault n false stood := if_neg h

/-- Settles O49: the line's telling by whether it is settled, and an ACTIVE condition by the channel's state. -/
theorem faultsTakeTheChannel : Obligations.FaultsTakeTheChannel := by
  intro d n stood s hr c us known line settled
  have hsettled : ∀ high, ((s.elapse d).tellFault n high stood).faultSettled n = true ↔ settled high := fun high => tellFault_settled_iff
  have hline : ∀ high, c.faultLine.told high (stood * (s.elapse d).perMicro) (s.elapse d).fin = line high := fun _ => rfl
  refine ⟨fun hset hfault hs => ?_, fun hset hfault hs => ?_, fun hno => ?_, fun hset => ?_, fun hno => ?_⟩
  · obtain ⟨t, heq, hm⟩ := faultActive_moves (s := s.elapse d) hfault ((hsettled true).mpr hset) hs
    refine ⟨_, (exec_faultActive hr d n stood).trans (congrArg Host.Outcome.next heq), congrArg (State.raise .channelEvent) hm.frame, hm.others,
      hm.carrierPin (s := s.elapse d) hr, Cause.or_weight_meets t.att.flags .channelEvent, hm.here⟩
  · have hfaulted : ((s.elapse d).chan n).state = .faulted := hs
    rw [exec_faultActive hr, faultActive_settled (s := s.elapse d) hfault ((hsettled true).mpr hset), if_pos hfaulted]
    have hchans : ((s.elapse d).markFault n stood).chans = s.chans.set n { c with fault := true, faultLine := line true } :=
      Four.ext_get fun m => (markFault_chan n m stood (s.elapse d)).trans (Four.get_set _ _ _ _).symm
    rw [← hchans]
    rfl
  · have hcond : ((s.elapse d).chan n).fault = true ∨ ((s.elapse d).tellFault n true stood).faultSettled n = false := by
      rcases hno with hno | hfault
      · exact .inr (Bool.eq_false_iff.mpr (mt (hsettled true).mp hno))
      · exact .inl hfault
    rw [exec_faultActive hr, faultActive_noted hcond]
    rfl
  · rw [exec_faultInactive hr, faultInactive_settled ((hsettled false).mpr hset)]
    have hchans : (((s.elapse d).tellFault n false stood).modifyChan n fun c => { c with fault := false }).chans =
        s.chans.set n { c with fault := false, faultLine := line false } := by
      refine Four.ext_get fun m => ?_
      refine (State.chan_modifyChan n m _ _).trans (Eq.trans ?_ (Four.get_set _ _ _ _).symm)
      rw [State.chan_tellFault, if_pos rfl, State.chan_tellFault]
      split <;> rfl
    rw [← hchans]
    rfl
  · rw [exec_faultInactive hr, faultInactive_noted (mt (hsettled false).mp hno)]
    rfl

/-! ### CLEAR FAULT -/

theorem exec_clearFault {s : State} (h : s.listens) {b : Byte} {n : Fin 4} (hn : n.val = b.toNat) (d : Nat) :
    exec (.clearFault (.of d [b])) s = .next (ownClearFault n (s.handed (.of d [b]))) :=
  congrArg Host.Outcome.next (takeRequest_channel h hn d 0x46 ownClearFault)

/-- Settles O43: the state and the condition, and then the channel OFF, which a condition ACTIVE again makes FAULTED. -/
theorem clearFaultClears : Obligations.ClearFaultClears := by
  intro d b n s h hn hunmeasured p c us
  refine ⟨fun hs => ?_, fun hs hfault => ?_, fun hs hfault => ?_⟩
  · rw [exec_clearFault h hn]
    exact congrArg Host.Outcome.next (if_pos hs)
  · rw [exec_clearFault h hn]
    exact congrArg Host.Outcome.next ((if_neg (not_not_intro hs)).trans (if_pos hfault))
  · have hno : ¬((s.handed p).chan n).fault = true := by
      rw [show ((s.handed p).chan n).fault = false from hfault]; exact Bool.false_ne_true
    have hstate : ((s.handed p).chan n).state ≠ .off := by
      rw [show ((s.handed p).chan n).state = .faulted from hs]; simp
    have hm := moveChannel_moves hstate
    obtain ⟨hmeter, hatt⟩ := hm.unmeasured hunmeasured
    have hframe : (s.handed p).moveChannel n .off = { s.handed p with chans := ((s.handed p).moveChannel n .off).chans } := by
      conv_lhs => rw [hm.frame]
      rw [hmeter, hatt]
    refine ⟨_, (exec_clearFault h hn d).trans (congrArg Host.Outcome.next ((if_neg (not_not_intro hs)).trans (if_neg hno))),
      congrArg (State.answer 0x46 .done []) hframe, hm.others, hm.here, fun e stood hstood hknown => ?_⟩
    have hrun : (State.answer 0x46 .done [] ((s.handed p).moveChannel n .off)).running = true := by
      rw [hframe]
      obtain ⟨hr, -⟩ := h
      exact hr
    have hchan : ((State.answer 0x46 .done [] ((s.handed p).moveChannel n .off)).elapse e).chan n = c.enter .off := hm.here
    have hclock : ((State.answer 0x46 .done [] ((s.handed p).moveChannel n .off)).elapse e).fin = s.fin + d + e ∧
        ((State.answer 0x46 .done [] ((s.handed p).moveChannel n .off)).elapse e).perMicro = us := by
      rw [hframe]; exact ⟨rfl, rfl⟩
    obtain ⟨hfin, hmicro⟩ := hclock
    have hset : (((State.answer 0x46 .done [] ((s.handed p).moveChannel n .off)).elapse e).tellFault n true stood).faultSettled n = true := by
      rw [tellFault_settled_iff, hchan, hfin, hmicro]
      exact ⟨hstood, hknown⟩
    obtain ⟨u, heq, hu⟩ := faultActive_moves (by rw [hchan]; exact hfault) hset (by rw [hchan]; simp [Channel.enter])
    refine ⟨_, (exec_faultActive hrun e n stood).trans (congrArg Host.Outcome.next heq), ?_⟩
    rw [State.chan_raise, hu.here]
    rfl

/-! ### CONFIGURE CHANNEL -/

theorem exec_configureChannel {s : State} (h : s.listens) (d : Nat) (b link mode ident dwell doubt silence mask d2 d1 d0 : Byte) :
    exec (.configureChannel (.of d [b, link, mode, ident, dwell, doubt, silence, mask, d2, d1, d0])) s =
      .next (ownConfigureChannel [b, link, mode, ident, dwell, doubt, silence, mask, d2, d1, d0]
        (s.handed (.of d [b, link, mode, ident, dwell, doubt, silence, mask, d2, d1, d0]))) :=
  congrArg Host.Outcome.next (takeRequest_of h rfl)

theorem ownConfigureChannel_refused {b : Byte} {rest : List Byte} (hbad : ∀ n cfg, fin4? b = some n → channelConfig? rest ≠ some cfg) (s : State) :
    ownConfigureChannel (b :: rest) s = s.refuse 0x40 .badParameter := by
  cases hn : fin4? b with
  | none => simp only [ownConfigureChannel, hn]
  | some n =>
    cases hcfg : channelConfig? rest with
    | none => simp only [ownConfigureChannel, hn, hcfg]
    | some cfg => exact absurd hcfg (hbad n cfg hn)

theorem ownConfigureChannel_read {b : Byte} {rest : List Byte} {n : Fin 4} {cfg : ChannelConfig} (hn : fin4? b = some n)
    (hcfg : channelConfig? rest = some cfg) (s : State) : ownConfigureChannel (b :: rest) s =
      if (s.profiles.get cfg.link).defined = false then s.refuse 0x40 .badParameter
      else if (s.chan n).state.inService = true ∧ (cfg.link ≠ (s.chan n).cfg.link ∨ cfg.mode ≠ (s.chan n).cfg.mode) then
        s.refuse 0x40 .wrongState
      else (s.modifyChan n (Channel.configure (s.scopeHolds n cfg.link) cfg)).answer 0x40 .done [] := by
  simp only [ownConfigureChannel, hn, hcfg]

/-- Settles O47: the operands, the profile's state, the fields fixed in service, and then the configuration written. -/
theorem configureChannelWrites : Obligations.ConfigureChannelWrites := by
  intro d b link mode ident dwell doubt silence mask d2 d1 d0 s h p drive legal refused
  constructor
  · intro hbad
    show exec _ s = _
    rw [exec_configureChannel h, ownConfigureChannel_refused fun n cfg hn hcfg => hbad ?_]
    · rfl
    · obtain ⟨hlegal, -⟩ := channelConfig?_eq_some_iff.mp hcfg
      have hb := fin4?_eq_some_iff.mp hn
      exact ⟨by omega, hlegal⟩
  · rintro ⟨-, hlegal⟩ n k hn hk c cfg inScope fixed
    have hcfg : channelConfig? [link, mode, ident, dwell, doubt, silence, mask, d2, d1, d0] = some cfg :=
      channelConfig?_eq_some_iff.mpr ⟨hlegal, k, hk, rfl⟩
    have hread := ownConfigureChannel_read (fin4?_eq_some_iff.mpr hn) hcfg (s.handed p)
    have hfixes : (((s.handed p).chan n).state.inService = true ∧
        (cfg.link ≠ ((s.handed p).chan n).cfg.link ∨ cfg.mode ≠ ((s.handed p).chan n).cfg.mode)) ↔ fixed :=
      and_congr_right fun _ => or_congr ne_comm ne_comm
    have hscope : ∀ x : Slot, (s.handed p).scopeHolds n cfg.link x.ident = inScope x := fun x => by
      refine congrArg (fun f => s.cal.entries.any f) (funext fun e => congrArg (and (e.ident == x.ident)) ?_)
      cases e.payload <;> rfl
    refine ⟨fun hunused => ?_, fun hdefined hfixed => ?_, fun hdefined hfree => ?_⟩
    · show exec _ s = _
      rw [exec_configureChannel h, hread, if_pos (show ((s.handed p).profiles.get cfg.link).defined = false from hunused)]
      rfl
    · have hused : ¬((s.handed p).profiles.get cfg.link).defined = false := by
        rw [show ((s.handed p).profiles.get cfg.link).defined = true from hdefined]; simp
      show exec _ s = _
      rw [exec_configureChannel h, hread, if_neg hused]
      exact congrArg Host.Outcome.next (if_pos (hfixes.mpr hfixed))
    · have hused : ¬((s.handed p).profiles.get cfg.link).defined = false := by
        rw [show ((s.handed p).profiles.get cfg.link).defined = true from hdefined]; simp
      rw [exec_configureChannel h, hread, if_neg hused]
      refine congrArg Host.Outcome.next ((if_neg (mt hfixes.mp hfree)).trans ?_)
      have hconfigured : Channel.configure ((s.handed p).scopeHolds n cfg.link) cfg c = if cfg = c.cfg then c else { c with
          cfg := cfg, pendingAdvance := some drive
          arbiter := if k = c.cfg.link then c.arbiter else { c.arbiter with
            inService := c.arbiter.inService.filter inScope, stack := c.arbiter.stack.filter inScope } } := by
        unfold Channel.configure Arbiter.keep
        simp only [hscope]
        rfl
      rw [← hconfigured]
      rfl

/-! ### READ CHANNEL -/

theorem exec_readChannel {s : State} (h : s.listens) {b : Byte} {n : Fin 4} (hn : n.val = b.toNat) (d : Nat) :
    exec (.readChannel (.of d [b])) s = .next (ownReadChannel n (s.handed (.of d [b]))) :=
  congrArg Host.Outcome.next (takeRequest_channel h hn d 0x47 ownReadChannel)

/-- The codes of the channel requests that carry nothing but the channel (11, section 12.3). -/
def channelCodes : List Byte := [0x41, 0x42, 0x43, 0x44, 0x45, 0x46, 0x47]

/-- A request of one of these codes is a channel request. -/
theorem exec_channel_request {c : Instr} {code : Byte} {p : Period} (hq : c.request? = some (code, p)) (hcode : code ∈ channelCodes)
    (hw : c.wellFormed = true) : ∃ act, ∀ s, exec c s = .next (s.takeRequest code 2 (ownChannel code act) p) := by
  cases c with
  | carrierOn => cases hq; exact ⟨_, fun _ => rfl⟩
  | goOnAir => cases hq; exact ⟨_, fun _ => rfl⟩
  | hold => cases hq; exact ⟨_, fun _ => rfl⟩
  | resume => cases hq; exact ⟨_, fun _ => rfl⟩
  | carrierOff => cases hq; exact ⟨_, fun _ => rfl⟩
  | clearFault => cases hq; exact ⟨_, fun _ => rfl⟩
  | readChannel => cases hq; exact ⟨_, fun _ => rfl⟩
  | unknownRequest k q =>
    cases hq
    obtain ⟨-, hnot⟩ := unknownCode_iff.mp hw
    have hsub : channelCodes ⊆ requestCodes := by decide
    exact absurd (hsub hcode) hnot
  | _ => cases hq <;> exact absurd hcode (by decide)

/-- Settles O48: the channel's fields, the on-air frame's summary last; a number above 3 reaches no act. -/
theorem readChannelReports : Obligations.ReadChannelReports := by
  constructor
  · intro d b n s h hn p c
    refine ⟨frameSummary c.onAir, ?_, fun hnone => by rw [hnone]; rfl, fun f hf => by rw [hf]⟩
    rw [exec_readChannel h hn]
    rfl
  · intro d b code c s h hb hq hcode hw
    obtain ⟨act, hexec⟩ := exec_channel_request hq hcode hw
    exact (hexec s).trans (congrArg Host.Outcome.next ((takeRequest_of h rfl).trans (ownChannel_unnamed hb code act _)))

end Sys2Proof.Machine
end

section
/-! ENTER CHANGE and AMEND CHANGE (R80 to R90): the fields read, the checks in their order, and the entry that is added or rewritten. -/

namespace Sys2Proof.Machine

/-! ### The fields -/

theorem changeFields?_length {rest : List Byte} {f : ChangeFields} (h : changeFields? rest = some f) : rest.length = 15 := by
  unfold changeFields? at h
  split at h
  · rfl
  · cases h

theorem payloadFor?_kind {f : ChangeFields} {k : Kind} {i : Nat} {p : Payload} (h : f.payloadFor? k i = some p) : p.kind = k := by
  cases k with
  | offsetChange =>
    simp only [ChangeFields.payloadFor?, Option.ite_none_right_eq_some, Option.bind_eq_bind, Option.bind_eq_some_iff, Option.pure_def,
      Option.some.injEq] at h
    obtain ⟨-, _, -, _, -, _, -, rfl⟩ := h
    rfl
  | leapInsert => cases h; rfl
  | leapDelete => cases h; rfl
  | interruption =>
    simp only [ChangeFields.payloadFor?, Option.bind_eq_bind, Option.bind_eq_some_iff, Option.ite_none_right_eq_some, Option.pure_def,
      Option.some.injEq] at h
    obtain ⟨_, -, _, -, -, rfl⟩ := h
    rfl
  | advisory =>
    simp only [ChangeFields.payloadFor?, Option.bind_eq_bind, Option.bind_eq_some_iff, Option.pure_def, Option.some.injEq] at h
    obtain ⟨_, -, _, -, rfl⟩ := h
    rfl

/-- The terms read for a kind are of that kind (R80). -/
theorem terms?_kind {f : ChangeFields} {k : Kind} {t : Terms} (h : f.terms? k = some t) : t.payload.kind = k := by
  simp only [ChangeFields.terms?, Option.bind_eq_bind, Option.bind_eq_some_iff, Option.pure_def, Option.some.injEq] at h
  obtain ⟨_, -, _, -, p, hp, rfl⟩ := h
  exact payloadFor?_kind hp

/-! ### The checks -/

/-- A LEAP kind (R50). -/
def Kind.isLeap (k : Kind) : Prop := k = .leapInsert ∨ k = .leapDelete

/-- Two OFFSET CHANGE payloads for one profile (R85). -/
def Payload.sameProfile (p q : Payload) : Prop :=
  ∃ (i : Fin 4) (o o' : Int) (g g' : Bool), p = .offsetChange i o g ∧ q = .offsetChange i o' g'

/-- Outages of two INTERRUPTION payloads from `a` and `b` on, with a channel in common, overlap (R86). -/
def Payload.outagesClash (p q : Payload) (a b : Nat) : Prop :=
  ∃ (c c' : BitVec 4) (m m' : Nat), p = .interruption c m ∧ q = .interruption c' m' ∧
    (∃ n : Fin 4, c.getLsbD n = true ∧ c'.getLsbD n = true) ∧ a < b + m' ∧ b < a + m

theorem sets_meet_iff : ∀ c k : BitVec 4, ((c &&& k) != 0) = true ↔ ∃ n : Fin 4, c.getLsbD n = true ∧ k.getLsbD n = true := by
  decide

/-- When terms conflict with an entry, by the kinds of both (R84 to R86). -/
theorem Terms.conflictsWith_iff {t : Terms} {e : Entry} : t.conflictsWith e = true ↔ e.state ≠ .withdrawn ∧
    ((t.payload.kind.isLeap ∧ e.kind.isLeap ∧ e.instant = t.instant) ∨
     (e.state ≠ .done ∧ t.payload.sameProfile e.payload ∧ t.instant - 60 * t.lead < e.instant ∧ e.instant - 60 * e.lead < t.instant) ∨
     (e.state ≠ .done ∧ t.payload.outagesClash e.payload t.instant e.instant)) := by
  obtain ⟨i, l, p⟩ := t
  unfold Terms.conflictsWith Kind.isLeap Payload.sameProfile Payload.outagesClash Entry.kind Entry.outageEnd Entry.announceStart
  cases p with
  | offsetChange =>
    cases e.payload with
    | offsetChange j =>
      simp only [Payload.kind, overlap, Bool.and_eq_true, decide_eq_true_eq, and_assoc, bne_iff_ne, beq_iff_eq]
      constructor
      · rintro ⟨hw, hd, rfl, hend, hbegin⟩
        exact ⟨hw, .inr (.inl ⟨hd, ⟨_, _, _, _, _, rfl, rfl⟩, hend, hbegin⟩)⟩
      · rintro ⟨hw, ⟨h, -⟩ | ⟨hd, ⟨_, _, _, _, _, ⟨⟩, ⟨⟩⟩, hend, hbegin⟩ | ⟨-, ⟨_, _, _, _, ⟨⟩, -⟩⟩⟩
        · simp at h
        · exact ⟨hw, hd, rfl, hend, hbegin⟩
    | _ => simp [Payload.kind]
  | leapInsert => cases e.payload <;> simp [Payload.kind]
  | leapDelete => cases e.payload <;> simp [Payload.kind]
  | interruption c d =>
    cases e.payload with
    | interruption k m =>
      simp only [Bool.and_eq_true, sets_meet_iff, overlap, decide_eq_true_eq]
      simp [Payload.kind, Payload.duration, and_assoc]
    | _ => simp [Payload.kind]
  | advisory => cases e.payload <;> simp [Payload.kind]

theorem lacksProfile_iff {s : State} {p : Payload} :
    s.lacksProfile p = true ↔ ∃ (i : Fin 4) (o : Int) (g : Bool), p = .offsetChange i o g ∧ (s.profiles.get i).defined = false := by
  cases p <;> simp [State.lacksProfile]

@[simp] theorem checkTerms_handed (p : Period) (t : Terms) (others : List Entry) (s : State) :
    (s.handed p).checkTerms t others = s.checkTerms t others := rfl

theorem checkTerms_grade {s : State} (h : s.tb.grade = 6) (t : Terms) (others : List Entry) : s.checkTerms t others = some .noTime := by
  unfold State.checkTerms
  split
  · rfl
  · exact if_pos h

theorem checkTerms_timed {s : State} {now : UtcSecond} (htime : s.tb.time = some now) (hgrade : s.tb.grade ≠ 6) (t : Terms)
    (others : List Entry) : s.checkTerms t others =
      if s.lacksProfile t.payload then some .noProfile
      else if t.instant * 60 < now.linear + 3600 * t.lead + 120 then some .tooSoon
      else if now.linear + 576000 * 60 < t.instant * 60 then some .tooFar
      else if others.any t.conflictsWith then some .conflict
      else none := by
  simp only [State.checkTerms, htime, hgrade, if_false]

/-- The terms lie too soon after the second in progress (R83). -/
def Terms.early (t : Terms) (now : UtcSecond) : Prop := t.instant * 60 < now.minute * 60 + now.second + t.lead * 3600 + 120

/-- The terms lie too far after the second in progress (R83). -/
def Terms.far (t : Terms) (now : UtcSecond) : Prop := (now.minute + 576000) * 60 + now.second < t.instant * 60

/-- The checks in their order, each as its condition (R82 to R86). -/
theorem checkTerms_refusals {s : State} {now : UtcSecond} (htime : s.tb.time = some now) (hgrade : s.tb.grade ≠ 6) (t : Terms)
    (others : List Entry) {noProfile clash : Prop} (hprofile : s.lacksProfile t.payload = true ↔ noProfile)
    (hclash : others.any t.conflictsWith = true ↔ clash) :
    (noProfile → s.checkTerms t others = some .noProfile) ∧
    (¬noProfile → t.early now → s.checkTerms t others = some .tooSoon) ∧
    (¬noProfile → ¬t.early now → t.far now → s.checkTerms t others = some .tooFar) ∧
    (¬noProfile → ¬t.early now → ¬t.far now → clash → s.checkTerms t others = some .conflict) ∧
    (¬noProfile → ¬t.early now → ¬t.far now → ¬clash → s.checkTerms t others = none) := by
  have hearly : t.instant * 60 < now.linear + 3600 * t.lead + 120 ↔ t.early now := by unfold Terms.early UtcSecond.linear; omega
  have hfar : now.linear + 576000 * 60 < t.instant * 60 ↔ t.far now := by unfold Terms.far UtcSecond.linear; omega
  rw [← hprofile, ← hclash, ← hearly, ← hfar, checkTerms_timed htime hgrade]
  refine ⟨fun h => if_pos h, fun h1 h2 => ?_, fun h1 h2 h3 => ?_, fun h1 h2 h3 h4 => ?_, fun h1 h2 h3 h4 => ?_⟩
  · rw [if_neg h1, if_pos h2]
  · rw [if_neg h1, if_neg h2, if_pos h3]
  · rw [if_neg h1, if_neg h2, if_neg h3, if_pos h4]
  · rw [if_neg h1, if_neg h2, if_neg h3, if_neg h4]

/-! ### ENTER CHANGE -/

theorem exec_enterChange {s : State} (h : s.listens) {rest : List Byte} {f : ChangeFields} (hf : changeFields? rest = some f) (d : Nat) (k : Byte) :
    exec (.enterChange (.of d (k :: rest))) s = .next (ownEnterChange (k :: rest) (s.handed (.of d (k :: rest)))) :=
  congrArg Host.Outcome.next (takeRequest_of h (by rw [List.length_cons, changeFields?_length hf]))

theorem ownEnterChange_badKind {k : Byte} (hk : kind? k = none) (rest : List Byte) (s : State) :
    ownEnterChange (k :: rest) s = s.refuse 0x30 .badParameter := by
  simp only [ownEnterChange, hk]

/-- The operands of an ENTER CHANGE, read (R81). -/
structure EnterRead (k : Byte) (rest : List Byte) (kind : Kind) (t : Terms) (level : Nat) (auto : Bool) (f : ChangeFields) : Prop where
  kindRead : kind? k = some kind
  fieldsRead : changeFields? rest = some f
  termsRead : f.terms? kind = some t
  levelRead : level? kind f.level = some level
  autoRead : yesNo? f.auto = some auto

theorem ownEnterChange_badFields {k : Byte} {rest : List Byte} {kind : Kind} {f : ChangeFields} (hk : kind? k = some kind)
    (hf : changeFields? rest = some f) (hbad : f.terms? kind = none ∨ level? kind f.level = none ∨ yesNo? f.auto = none) (s : State) :
    ownEnterChange (k :: rest) s = s.refuse 0x30 .badParameter := by
  simp only [ownEnterChange, hk, hf]
  split
  · next ht hl ha => simp [ht, hl, ha] at hbad
  · rfl

theorem ownEnterChange_refused {k : Byte} {rest : List Byte} {kind : Kind} {t : Terms} {level : Nat} {auto : Bool} {f : ChangeFields}
    (h : EnterRead k rest kind t level auto f) {s : State} {r : Result} (hr : s.checkTerms t s.cal.entries = some r) :
    ownEnterChange (k :: rest) s = s.refuse 0x30 r := by
  simp only [ownEnterChange, h.kindRead, h.fieldsRead, h.termsRead, h.levelRead, h.autoRead, hr]

theorem ownEnterChange_checked {k : Byte} {rest : List Byte} {kind : Kind} {t : Terms} {level : Nat} {auto : Bool} {f : ChangeFields}
    (h : EnterRead k rest kind t level auto f) {s : State} (hc : s.checkTerms t s.cal.entries = none) :
    ownEnterChange (k :: rest) s =
      if 32 ≤ s.cal.entries.length then s.refuse 0x30 .calendarFull else s.addEntry t level auto := by
  simp only [ownEnterChange, h.kindRead, h.fieldsRead, h.termsRead, h.levelRead, h.autoRead, hc]

/-- Settles O28: the operands, and then the checks of the terms in their order, the count last. -/
theorem enterChangeRefusals : Obligations.EnterChangeRefusals := by
  intro d k rest f s h hf p refused
  have hrefused : ∀ r : Result, ownEnterChange (k :: rest) (s.handed p) = (s.handed p).refuse 0x30 r → refused r.byte := fun r hr =>
    (exec_enterChange h hf d k).trans (congrArg Host.Outcome.next hr)
  refine ⟨fun hk => hrefused .badParameter (ownEnterChange_badKind hk rest _), fun kind hk => ⟨fun hbad => ?_, ?_⟩⟩
  · exact hrefused .badParameter (ownEnterChange_badFields hk hf hbad _)
  · intro t level auto ht hl ha
    have hread : EnterRead k rest kind t level auto f := ⟨hk, hf, ht, hl, ha⟩
    have hcheck : ∀ r : Result, s.checkTerms t s.cal.entries = some r → refused r.byte := fun r hr =>
      hrefused r (ownEnterChange_refused hread (s := s.handed p) hr)
    refine ⟨fun hgrade => hcheck .noTime (checkTerms_grade hgrade t _), fun now htime hgrade => ?_⟩
    intro noProfile early far clash
    have hclash : s.cal.entries.any t.conflictsWith = true ↔ clash := by
      simp only [List.any_eq_true, Terms.conflictsWith_iff, terms?_kind ht]
      rfl
    obtain ⟨hno, hsoon, hfar, hconflict, hnone⟩ := checkTerms_refusals htime hgrade t s.cal.entries lacksProfile_iff hclash
    refine ⟨fun h1 => hcheck .noProfile (hno h1), fun h1 h2 => hcheck .tooSoon (hsoon h1 h2), fun h1 h2 h3 => hcheck .tooFar (hfar h1 h2 h3),
      fun h1 h2 h3 h4 => hcheck .conflict (hconflict h1 h2 h3 h4), fun h1 h2 h3 h4 hfull => ?_⟩
    exact hrefused .calendarFull ((ownEnterChange_checked hread (s := s.handed p) (hnone h1 h2 h3 h4)).trans (if_pos hfull))

/-- Settles O27: every check passes, so the entry is added under the first free ident. -/
theorem enterChangeAdds : Obligations.EnterChangeAdds := by
  intro d k rest f kind t level auto now s h hf hk ht hl ha hsound htime hgrade hprofile hsoon hfar hconflict hlen p identPlaced
  have hread : EnterRead k rest kind t level auto f := ⟨hk, hf, ht, hl, ha⟩
  have hlacks : ¬s.lacksProfile t.payload = true := by rw [hprofile]; exact Bool.false_ne_true
  have hclash : ¬s.cal.entries.any t.conflictsWith = true := by
    rw [List.any_eq_true]
    rintro ⟨e, he, hc⟩
    rw [hconflict e he] at hc
    cases hc
  have hcheck : s.checkTerms t s.cal.entries = none := by
    rw [checkTerms_timed htime hgrade, if_neg hlacks, if_neg (by omega), if_neg (by omega), if_neg hclash]
  have hown : ownEnterChange (k :: rest) (s.handed p) = (s.handed p).addEntry t level auto :=
    (ownEnterChange_checked hread (s := s.handed p) hcheck).trans (if_neg (not_le.mpr hlen))
  obtain ⟨j, hj, hbefore, hfree⟩ := freeIdent_free hsound.holds.length hsound.holds.next
  have hident : identFrom s.cal.nextIdent = identPlaced := rfl
  rw [hident] at hj hbefore hfree
  have hnext : identAfter (identPlaced j) = identPlaced (j + 1) := identAfter_identFrom s.cal.nextIdent j
  have hadd : (s.handed p).addEntry t level auto = { s.handed p with
      cal := { s.cal with entries := insertEntry (newEntry (identPlaced j) t level auto) s.cal.entries, nextIdent := identPlaced (j + 1) }
      att := { s.att with flags := if s.cal.entries.length = 27 then s.att.flags ||| 0x0010 else s.att.flags }
      link := .working (.formed ([0x30, 0x00] ++ be16 (identPlaced j))) } := by
    unfold State.addEntry
    rw [State.handed_cal]
    dsimp only
    rw [hj, hnext]
    split <;> rfl
  refine ⟨j, _, (exec_enterChange h hf d k).trans (congrArg Host.Outcome.next (hown.trans hadd)), hfree, hbefore, rfl, insertEntry_perm _ _, ?_⟩
  exact (insertEntry_ordered hsound.holds.ordered hfree).imp Entry.precedes_iff.mp

/-! ### AMEND CHANGE -/

theorem exec_amendChange {s : State} (h : s.listens) {rest : List Byte} {f : ChangeFields} (hf : changeFields? rest = some f) (d : Nat)
    (hi lo : Byte) :
    exec (.amendChange (.of d (hi :: lo :: rest))) s = .next (ownAmendChange (hi :: lo :: rest) (s.handed (.of d (hi :: lo :: rest)))) :=
  congrArg Host.Outcome.next (takeRequest_of h (by rw [List.length_cons, List.length_cons, changeFields?_length hf]))

theorem openChange_absent {s : State} {hi lo : Byte} (h : ∀ e ∈ s.cal.entries, e.ident ≠ word16 hi lo) : s.openChange hi lo = none := by
  simp only [State.openChange, findEntry_eq_none_iff.mpr h]

/-- The entry of the ident, WITHDRAWN ones left out (R88, R91, R92). -/
theorem openChange_of {s : State} (hs : s.cal.sound) {e : Entry} (he : e ∈ s.cal.entries) {hi lo : Byte} (hident : e.ident = word16 hi lo) :
    s.openChange hi lo = if e.state = .withdrawn then none else some e := by
  have hfind : s.findEntry (word16 hi lo) = some e := by rw [← hident]; exact findEntry_ident hs.holds.idents he
  simp only [State.openChange, hfind]

section
variable {hi lo : Byte} {rest : List Byte} {f : ChangeFields} {s : State}

theorem ownAmendChange_absent (hf : changeFields? rest = some f) (hopen : s.openChange hi lo = none) :
    ownAmendChange (hi :: lo :: rest) s = s.refuse 0x31 .noSuchChange := by
  simp only [ownAmendChange, hf, hopen]

theorem ownAmendChange_open {e : Entry} (hf : changeFields? rest = some f) (hopen : s.openChange hi lo = some e) :
    ownAmendChange (hi :: lo :: rest) s =
      if e.state = .done then s.refuse 0x31 .wrongState
      else if f.terms? e.kind = some e.terms then s.amendLevel e (level? e.kind f.level) (yesNo? f.auto)
      else s.amendTerms e (f.terms? e.kind) (level? e.kind f.level) (yesNo? f.auto) := by
  simp only [ownAmendChange, hf, hopen]

end

theorem amendLevel_refused {level : Option Nat} {auto : Option Bool} (h : level = none ∨ auto = none) (e : Entry) (s : State) :
    s.amendLevel e level auto = s.refuse 0x31 .badParameter := by
  fun_cases State.amendLevel with
  | case1 => simp at h
  | case2 => rfl

theorem amendTerms_locked {e : Entry} (h : e.locked = true) (t : Option Terms) (level : Option Nat) (auto : Option Bool) (s : State) :
    s.amendTerms e t level auto = s.refuse 0x31 .locked := if_pos h

theorem amendTerms_badFields {e : Entry} (hl : e.locked = false) {t : Option Terms} {level : Option Nat} {auto : Option Bool}
    (h : t = none ∨ level = none ∨ auto = none) (s : State) : s.amendTerms e t level auto = s.refuse 0x31 .badParameter := by
  unfold State.amendTerms
  rw [if_neg (by rw [hl]; exact Bool.false_ne_true)]
  split
  · simp at h
  · rfl

theorem amendTerms_refused {e : Entry} (hl : e.locked = false) {t : Terms} {level : Nat} {auto : Bool} {r : Result} {s : State}
    (hr : s.checkTerms t (s.cal.entries.filter fun x => x.ident ≠ e.ident) = some r) :
    s.amendTerms e (some t) (some level) (some auto) = s.refuse 0x31 r := by
  simp only [State.amendTerms, hl, hr, Bool.false_eq_true, if_false]

theorem amendTerms_accepted {e : Entry} (hl : e.locked = false) {t : Terms} {level : Nat} {auto : Bool} {s : State}
    (hr : s.checkTerms t (s.cal.entries.filter fun x => x.ident ≠ e.ident) = none) :
    s.amendTerms e (some t) (some level) (some auto) = (s.replaceTerms e t level auto).answer 0x31 .done [] := by
  simp only [State.amendTerms, hl, hr, Bool.false_eq_true, if_false]

/-- Settles O29: the entry found or not, DONE or not, the terms equal or not, and then the checks against the other entries. -/
theorem amendChangeRewrites : Obligations.AmendChangeRewrites := by
  intro d hi lo rest f s h hf hsound p refused
  have hrefused : ∀ r : Result, ownAmendChange (hi :: lo :: rest) (s.handed p) = (s.handed p).refuse 0x31 r → refused r.byte := fun r hr =>
    (exec_amendChange h hf d hi lo).trans (congrArg Host.Outcome.next hr)
  refine ⟨fun hnone => ?_, fun e he hident => ?_⟩
  · exact hrefused .noSuchChange (ownAmendChange_absent hf (openChange_absent (s := s.handed p) hnone))
  · intro same
    have hopen := openChange_of (s := s.handed p) hsound he hident
    have hown : e.state ≠ .withdrawn → e.state ≠ .done → ownAmendChange (hi :: lo :: rest) (s.handed p) =
        if f.terms? e.kind = some e.terms then (s.handed p).amendLevel e (level? e.kind f.level) (yesNo? f.auto)
        else (s.handed p).amendTerms e (f.terms? e.kind) (level? e.kind f.level) (yesNo? f.auto) := fun hw hd =>
      (ownAmendChange_open hf (hopen.trans (if_neg hw))).trans (if_neg hd)
    refine ⟨fun hw => ?_, fun hd => ?_, fun hw hd hsame hbad => ?_, fun hw hd hdiffers hlocked => ?_, fun hw hd hdiffers hunlocked => ⟨fun hbad => ?_, ?_⟩,
      ?_⟩
    · exact hrefused .noSuchChange (ownAmendChange_absent hf (hopen.trans (if_pos hw)))
    · have hw : e.state ≠ .withdrawn := by rw [hd]; simp
      exact hrefused .wrongState ((ownAmendChange_open hf (hopen.trans (if_neg hw))).trans (if_pos hd))
    · exact hrefused .badParameter ((hown hw hd).trans ((if_pos hsame).trans (amendLevel_refused hbad e _)))
    · exact hrefused .locked ((hown hw hd).trans ((if_neg hdiffers).trans (amendTerms_locked hlocked _ _ _ _)))
    · exact hrefused .badParameter ((hown hw hd).trans ((if_neg hdiffers).trans (amendTerms_badFields hunlocked hbad _)))
    · intro t level auto ht hl ha
      have hterms := (hown hw hd).trans (if_neg hdiffers)
      rw [ht, hl, ha] at hterms
      have hcheck : ∀ r : Result, s.checkTerms t (s.cal.entries.filter fun x => x.ident ≠ e.ident) = some r → refused r.byte := fun r hr =>
        hrefused r (hterms.trans (amendTerms_refused (s := s.handed p) hunlocked hr))
      refine ⟨fun hgrade => hcheck .noTime (checkTerms_grade hgrade t _), fun now htime hgrade => ?_⟩
      intro noProfile early far clash
      have hclash : (s.cal.entries.filter fun x => x.ident ≠ e.ident).any t.conflictsWith = true ↔ clash := by
        simp only [List.any_eq_true, List.mem_filter, decide_eq_true_iff, Terms.conflictsWith_iff, terms?_kind ht, and_assoc]
        rfl
      obtain ⟨hno, hsoon, hfar, hconflict, -⟩ := checkTerms_refusals htime hgrade t _ lacksProfile_iff hclash
      exact ⟨fun h1 => hcheck .noProfile (hno h1), fun h1 h2 => hcheck .tooSoon (hsoon h1 h2),
        fun h1 h2 h3 => hcheck .tooFar (hfar h1 h2 h3), fun h1 h2 h3 h4 => hcheck .conflict (hconflict h1 h2 h3 h4)⟩
    · intro level auto hw hd hl ha
      refine ⟨fun hsame => ?_, fun t hdiffers hunlocked ht hnone => ?_⟩
      · have hlevel := (hown hw hd).trans (if_pos hsame)
        rw [hl, ha] at hlevel
        exact (exec_amendChange h hf d hi lo).trans (congrArg Host.Outcome.next hlevel)
      · have hterms := (hown hw hd).trans (if_neg hdiffers)
        rw [ht, hl, ha] at hterms
        refine ⟨_, (exec_amendChange h hf d hi lo).trans (congrArg Host.Outcome.next
          (hterms.trans (amendTerms_accepted (s := s.handed p) hunlocked hnone))), rfl, insertEntry_perm _ _, ?_⟩
        have hfree : ∀ x ∈ (s.cal.entries.filter fun x => x.ident ≠ e.ident), x.ident ≠ e.ident := fun x hx => by
          simpa using (List.mem_filter.mp hx).2
        exact (insertEntry_ordered (e := { e with instant := t.instant, lead := t.lead, payload := t.payload, level := level, autoRetire := auto }) (hsound.holds.ordered.filter _) hfree).imp Entry.precedes_iff.mp

end Sys2Proof.Machine
end

section
/-! Channel seconds (R119, R120, R134, R136, R148, R161): what a channel second's start decides, keys and carries out. -/

namespace Sys2Proof.Machine

/-! ### The start of a channel second -/

/-- The channel whose second is followed by one labelled `w` (R120, R136). -/
def Channel.secondBegun (w : UtcSecond) (c : Channel) : Channel :=
  if w.second = 0 then { c with nextSecond := some w, inForce := c.pendingAdvance.getD c.inForce, pendingAdvance := none }
  else { c with nextSecond := some w }

@[simp] theorem Channel.secondBegun_state (w : UtcSecond) (c : Channel) : (c.secondBegun w).state = c.state := by
  unfold Channel.secondBegun; split <;> rfl

@[simp] theorem Channel.secondBegun_onAir (w : UtcSecond) (c : Channel) : (c.secondBegun w).onAir = c.onAir := by
  unfold Channel.secondBegun; split <;> rfl

theorem Channel.secondBegun_eq (w : UtcSecond) (c : Channel) : c.secondBegun w =
    { c with
      nextSecond := some w, inForce := if w.second = 0 then c.pendingAdvance.getD c.inForce else c.inForce
      pendingAdvance := if w.second = 0 then none else c.pendingAdvance } := by
  unfold Channel.secondBegun; split <;> rfl

/-- The FIN periods until channel `n`'s second labelled `v` is due. -/
def State.untilChannelSecond (s : State) (n : Fin 4) (v : UtcSecond) : Nat :=
  if s.tb.time = some v then 0 else s.tb.length - (s.chan n).inForce * s.perMicro - s.tb.elapsed

theorem toChannelSecond_eq (n : Fin 4) (v : UtcSecond) (s : State) : s.toChannelSecond n v = s.elapse (s.untilChannelSecond n v) := by
  unfold State.toChannelSecond State.untilChannelSecond
  split <;> rfl

/-- The state in which channel `n`'s second labelled `v` has begun and nothing of it is carried out. -/
def State.beginChannelSecond (n : Fin 4) (v : UtcSecond) (s : State) : State :=
  (s.elapse (s.untilChannelSecond n v)).modifyChan n (Channel.secondBegun (s.secondAfter v))

theorem beginChannelSecond_chan (n m : Fin 4) (v : UtcSecond) (s : State) :
    (s.beginChannelSecond n v).chan m = if m = n then (s.chan n).secondBegun (s.secondAfter v) else s.chan m :=
  State.chan_modifyChan ..

theorem channelSecondStart_begun {n : Fin 4} {v : UtcSecond} {s : State} (hv : (s.chan n).nextSecond = some v) :
    channelSecondStart n s =
      ((if v.second = 0 then (s.beginChannelSecond n v).channelBoundary n else s.beginChannelSecond n v).keySecond n v.second).openWindow n := by
  unfold channelSecondStart
  rw [hv]
  dsimp only
  rw [toChannelSecond_eq]
  rfl

theorem exec_channelSecondStart {n : Fin 4} {s : State} (hr : s.running = true) :
    exec (.channelSecondStart n) s = .next (channelSecondStart n s) := congrArg Host.Outcome.next (whenRunning_running hr 0 _)

/-! ### The sampling window -/

/-- The measurement as a channel second of channel `n` that begins at the FIN count `at_` leaves it: its window open when it measures `n` (R171, R172). -/
def Working.opened (n : Fin 4) (at_ : Nat) (w : Working) : Working :=
  if w.channel = n then { w with window := some at_, sample := none } else w

theorem openWindow_eq (n : Fin 4) (s : State) :
    s.openWindow n = { s with meter := { s.meter with working := s.meter.working.map (Working.opened n s.fin) } } := by
  unfold State.openWindow
  cases hw : s.meter.working with
  | none =>
    show s = { s with meter := { s.meter with working := none } }
    rw [← hw]
  | some w =>
    simp only [Option.map_some, Working.opened]
    split
    · rfl
    · rw [← hw]

@[simp] theorem openWindow_chan (n m : Fin 4) (s : State) : (s.openWindow n).chan m = s.chan m := by rw [openWindow_eq]; rfl

theorem opened_unmeasured {n : Fin 4} {s : State} (h : ¬∃ w ∈ s.meter.working, w.channel = n) (at_ : Nat) :
    s.meter.working.map (Working.opened n at_) = s.meter.working := by
  cases hw : s.meter.working with
  | none => rfl
  | some w => exact congrArg some (if_neg fun hn => h ⟨w, hw, hn⟩)

/-! ### What is keyed -/

theorem keySecond_chan (n m : Fin 4) (k : Nat) (s : State) : (s.keySecond n k).chan m =
    if m = n then { s.chan n with key := !(s.keyPlanFor n k).isEmpty, keyPlan := s.keyPlanFor n k } else s.chan m :=
  State.chan_modifyChan ..

theorem keyPlanFor_onAir {n : Fin 4} {k : Nat} {s : State} {f : Frame} {x : Symbol} (hs : (s.chan n).state = .onAir)
    (hf : (s.chan n).onAir = some f) (hx : f.symbols[k]? = some x) : s.keyPlanFor n k = x.plan s.fin s.perMicro := by
  simp only [State.keyPlanFor, hs, hf, hx, Option.bind_some, Option.map_some, Option.getD_some]

theorem keyPlanFor_measured {n : Fin 4} {s : State} (hs : (s.chan n).state = .carrier) (hm : s.measures n = true) (k : Nat) :
    s.keyPlanFor n k = [⟨s.fin + 20000 * s.perMicro, false⟩] := by
  simp only [State.keyPlanFor, hs, hm, if_true]

theorem keyPlanFor_unmeasured {n : Fin 4} {s : State} (hs : (s.chan n).state = .carrier) (hm : s.measures n = false) (k : Nat) :
    s.keyPlanFor n k = [] := by
  simp only [State.keyPlanFor, hs, hm, Bool.false_eq_true, if_false]

theorem keyPlanFor_silent {n : Fin 4} {s : State} (hc : (s.chan n).state ≠ .carrier) (ha : (s.chan n).state ≠ .onAir) (k : Nat) :
    s.keyPlanFor n k = [] := by
  cases hs : (s.chan n).state with
  | carrier => exact absurd hs hc
  | onAir => exact absurd hs ha
  | _ => simp only [State.keyPlanFor, hs]

theorem Symbol.plan_ne_nil (x : Symbol) (t us : Nat) : (x.plan t us).isEmpty = false := by cases x <;> rfl

/-! ### A second other than 0 -/

/-- The state after the start of channel `n`'s second labelled `v`, not second 0. -/
theorem channelSecondStart_plain {n : Fin 4} {v : UtcSecond} {s : State} (hv : (s.chan n).nextSecond = some v) (h0 : v.second ≠ 0) :
    channelSecondStart n s = ((s.beginChannelSecond n v).keySecond n v.second).openWindow n := by
  rw [channelSecondStart_begun hv, if_neg h0]

theorem channelSecondStart_plain_chan {n : Fin 4} {v : UtcSecond} {s : State} (hv : (s.chan n).nextSecond = some v) (h0 : v.second ≠ 0)
    (m : Fin 4) : (channelSecondStart n s).chan m = if m = n then { (s.chan n).secondBegun (s.secondAfter v) with
      key := !((s.beginChannelSecond n v).keyPlanFor n v.second).isEmpty, keyPlan := (s.beginChannelSecond n v).keyPlanFor n v.second } else s.chan m := by
  rw [channelSecondStart_plain hv h0, openWindow_chan, keySecond_chan, beginChannelSecond_chan, beginChannelSecond_chan, if_pos rfl]
  by_cases hm : m = n <;> simp [hm]

theorem exec_keyingTimedChange {n : Fin 4} {s : State} (hr : s.running = true) :
    exec (.keyingTimedChange n) s = .next (keyingTimedChange n s) := congrArg Host.Outcome.next (whenRunning_running hr 0 _)

/-- Settles O50: the label and the advance by the last second of the minute or not, the keying by the channel's state; then the timed changes, one at a time. -/
theorem channelSecondsKeySymbols : Obligations.ChannelSecondsKeySymbols := by
  constructor
  · intro n v s hr hv h0 c us last measured
    have hchan := channelSecondStart_plain_chan hv h0
    have hhere := (hchan n).trans (if_pos rfl)
    have hstart := channelSecondStart_plain hv h0
    rw [openWindow_eq] at hstart
    have hfin : (channelSecondStart n s).fin = s.fin + s.untilChannelSecond n v := by rw [hstart]; rfl
    have helapsed : (channelSecondStart n s).tb.elapsed = s.tb.elapsed + s.untilChannelSecond n v := by rw [hstart]; rfl
    have hkey := congrArg Channel.key hhere
    have hplan := congrArg Channel.keyPlan hhere
    have hbegun : (s.beginChannelSecond n v).chan n = c.secondBegun (s.secondAfter v) := (beginChannelSecond_chan n n v s).trans (if_pos rfl)
    have hstate : ((s.beginChannelSecond n v).chan n).state = c.state := by rw [hbegun, Channel.secondBegun_state]
    have hair : ((s.beginChannelSecond n v).chan n).onAir = c.onAir := by rw [hbegun, Channel.secondBegun_onAir]
    have hmeasures : (s.beginChannelSecond n v).measures n = true ↔ measured := State.measures_iff
    refine ⟨_, exec_channelSecondStart hr, ?_, ?_, fun ht => ?_, fun ht hlate => ?_, fun m hm => ?_, ?_, fun f x hs hf hx => ?_, fun hs hm => ?_,
      fun hun => ?_, fun hun => ?_, fun w hw hwn => ?_⟩
    · rw [hstart]; rfl
    · omega
    · rw [hfin, State.untilChannelSecond, if_pos ht]; rfl
    · rw [helapsed, State.untilChannelSecond, if_neg ht]
      exact Nat.add_sub_cancel' hlate
    · rw [hchan, if_neg hm]
    · rw [hhere, Channel.secondBegun_eq]
    · rw [keyPlanFor_onAir (hstate.trans hs) (hair.trans hf) hx] at hkey hplan
      rw [hkey, hplan, hfin, Symbol.plan_ne_nil]
      exact ⟨rfl, by cases x <;> rfl⟩
    · rw [keyPlanFor_measured (hstate.trans hs) (hmeasures.mpr hm)] at hkey hplan
      exact ⟨hkey, hplan.trans (by rw [hfin]; rfl)⟩
    · have hnone : (s.beginChannelSecond n v).keyPlanFor n v.second = [] := by
        rcases hun with ⟨hs, hm⟩ | ⟨hc, ha⟩
        · exact keyPlanFor_unmeasured (hstate.trans hs) (Bool.eq_false_iff.mpr (mt hmeasures.mp hm)) _
        · exact keyPlanFor_silent (by rwa [hstate]) (by rwa [hstate]) _
      rw [hnone] at hkey hplan
      exact ⟨hkey, hplan⟩
    · rw [hstart]
      exact congrArg (fun w => { s.meter with working := w }) (opened_unmeasured hun _)
    · have hworking : ∀ at_, s.meter.working.map (Working.opened n at_) = some { w with window := some at_, sample := none } := fun at_ => by
        rw [hw]; exact congrArg some (if_pos hwn)
      rw [hfin, hstart]
      exact hworking _
  · intro n s hr
    refine ⟨fun hnil => ?_, fun x rest hplan => ?_⟩
    · rw [exec_keyingTimedChange hr, keyingTimedChange, hnil]
    · rw [exec_keyingTimedChange hr, keyingTimedChange, hplan]
      rfl

/-! ### Second 0: the boundary -/

/-- CHANNEL EVENT stands after an event that moved the channel (R165). -/
theorem moveByEvent_raises {n : Fin 4} {st : ChannelState} {s : State} (h : st ≠ (s.chan n).state) :
    (s.moveByEvent n st).att.flags &&& 0x0020 ≠ 0 := by
  rw [State.moveByEvent, if_neg (Ne.symm h)]
  exact Cause.or_weight_meets _ .channelEvent

theorem boundaryMove_raises {n : Fin 4} {c : Channel} {s : State} (h : ((s.boundaryMove n c).chan n).state ≠ (s.chan n).state) :
    (s.boundaryMove n c).att.flags &&& 0x0020 ≠ 0 := by
  have hmoved : ∀ {st : ChannelState} {f : Channel → Channel}, (∀ d : Channel, (f d).state = d.state) →
      (((s.moveByEvent n st).modifyChan n f).chan n).state ≠ (s.chan n).state →
      ((s.moveByEvent n st).modifyChan n f).att.flags &&& 0x0020 ≠ 0 := by
    intro st f hf hne
    rw [State.chan_modifyChan, if_pos rfl, hf, moveByEvent_chan, if_pos rfl, Channel.moved_state] at hne
    exact moveByEvent_raises hne
  have hplain : ∀ {st : ChannelState}, ((s.moveByEvent n st).chan n).state ≠ (s.chan n).state →
      (s.moveByEvent n st).att.flags &&& 0x0020 ≠ 0 := by
    intro st hne
    rw [moveByEvent_chan, if_pos rfl, Channel.moved_state] at hne
    exact moveByEvent_raises hne
  revert h
  fun_cases State.boundaryMove with
  | case1 => exact hmoved fun _ => rfl
  | case2 => exact hplain
  | case3 => exact hmoved fun _ => rfl
  | case4 => exact hmoved fun _ => rfl
  | case5 => exact hplain
  | case6 => exact fun h => absurd rfl h

theorem channelBoundary_raises {n : Fin 4} {s : State} (h : ((s.channelBoundary n).chan n).state ≠ (s.chan n).state) :
    (s.channelBoundary n).att.flags &&& 0x0020 ≠ 0 := by
  revert h
  have hmove := boundaryMove_raises (n := n) (c := s.chan n) (s := s.modifyChan n fun c => { c.undecided with onAir := none })
  rw [State.chan_modifyChan (n := n) (m := n), if_pos rfl] at hmove
  unfold State.channelBoundary
  dsimp only
  split
  · exact hmove
  · rw [State.chan_modifyChan, if_pos rfl]
    exact hmove

theorem Channel.frameToKey_eq_none_iff {c : Channel} :
    c.frameToKey = none ↔ c.staged = none ∨ c.quietDecided = true ∨ c.claim ≠ none ∨ c.claimCancelled = true := by
  unfold Channel.frameToKey
  rw [ite_eq_left_iff]
  simp only [Bool.or_eq_true, Option.isSome_iff_ne_none, or_assoc]
  tauto

theorem Channel.frameToKey_some {c : Channel} {f : Frame} (hf : c.staged = some f)
    (hlater : ¬(c.quietDecided = true ∨ c.claim ≠ none ∨ c.claimCancelled = true)) : c.frameToKey = some f := by
  unfold Channel.frameToKey
  rw [if_neg, hf]
  simpa only [Bool.or_eq_true, Option.isSome_iff_ne_none, or_assoc] using hlater

/-- The channel with the decision taken from it and the ended frame deleted, as its boundary moves it. -/
def Channel.opened (c : Channel) : Channel := { c.undecided with onAir := none }

/-- What a boundary leaves of a channel: its configuration, its history, its arbiter's mark and no decision. -/
structure Channel.Kept (c d : Channel) : Prop where
  cfg : d.cfg = c.cfg
  history : d.history = c.history
  mark : d.arbiter.mark = c.arbiter.mark
  staged : d.staged = c.staged
  holdPending : d.holdPending = c.holdPending
  claim : d.claim = c.claim
  quietDecided : d.quietDecided = c.quietDecided

theorem Channel.moved_kept (st : ChannelState) (c : Channel) : c.Kept (c.moved st) := by
  rw [Channel.moved_frame]
  exact ⟨rfl, rfl, rfl, rfl, rfl, rfl, rfl⟩

theorem Channel.boundaryMoved_kept (now : RunSec) (held c : Channel) : c.Kept (held.boundaryMoved now c) := by
  fun_cases Channel.boundaryMoved with
  | case6 => exact ⟨rfl, rfl, rfl, rfl, rfl, rfl, rfl⟩
  | _ =>
    obtain ⟨hcfg, hhistory, hmark, hstaged, hhold, hclaim, hquiet⟩ := Channel.moved_kept _ c
    exact ⟨hcfg, hhistory, hmark, hstaged, hhold, hclaim, hquiet⟩

theorem Channel.crossed_kept (now : RunSec) (c : Channel) : c.opened.Kept (c.crossed now) := by
  have hmoved : c.opened.Kept (c.boundaryMoved now c.opened) := Channel.boundaryMoved_kept now c c.opened
  unfold Channel.crossed
  dsimp only
  split
  · exact hmoved
  · obtain ⟨hcfg, hhistory, hmark, hstaged, hhold, hclaim, hquiet⟩ := hmoved
    exact ⟨hcfg, hhistory, hmark, hstaged, hhold, hclaim, hquiet⟩

theorem Channel.crossed_framed {c : Channel} {f : Frame} (h : c.frameToKey = some f) (now : RunSec) :
    (c.crossed now).state = .onAir ∧ (c.crossed now).onAir = some f := by
  have hmoved : c.boundaryMoved now c.opened = { c.opened.moved .onAir with onAir := some f } := by
    simp only [Channel.boundaryMoved, h]
  have hcrossed : c.crossed now = { c.opened.moved .onAir with onAir := some f } := by
    unfold Channel.crossed
    rw [← Channel.opened, hmoved]
    exact if_pos (Channel.moved_state .onAir c.opened)
  rw [hcrossed]
  exact ⟨Channel.moved_state _ _, rfl⟩

/-- Without a frame to key the channel is not ON AIR after its boundary, and holds no frame (R113, R148). -/
theorem Channel.boundaryMoved_unframed {c : Channel} (h : c.frameToKey = none) (now : RunSec) :
    (c.boundaryMoved now c.opened).state ≠ .onAir ∧ (c.boundaryMoved now c.opened).onAir = none := by
  have hair : ∀ st, (c.opened.moved st).onAir = none := fun st => by rw [Channel.moved_frame]; rfl
  have hstate : ∀ st, st ≠ ChannelState.onAir → (c.opened.moved st).state ≠ .onAir := fun st => (Channel.moved_state st c.opened).trans_ne
  fun_cases Channel.boundaryMoved with
  | case1 f hf => rw [h] at hf; cases hf
  | case2 => exact ⟨hstate _ (by simp), hair _⟩
  | case3 => exact ⟨hstate _ (by simp), hair _⟩
  | case4 => exact ⟨hstate _ (by simp), hair _⟩
  | case5 => exact ⟨hstate _ (by simp), hair _⟩
  | case6 _ _ _ _ hstay =>
    refine ⟨fun hs => hstay ?_, rfl⟩
    have hs : c.state = .onAir := hs
    simp [hs]

theorem Channel.crossed_unframed {c : Channel} (h : c.frameToKey = none) (now : RunSec) :
    c.crossed now = (c.boundaryMoved now c.opened).emptyArbiter := if_neg (Channel.boundaryMoved_unframed h now).1

theorem Channel.crossed_quiet {c : Channel} (hq : c.quietDecided = true) (now : RunSec) : (c.crossed now).state = .quiet := by
  have hframe : c.frameToKey = none := Channel.frameToKey_eq_none_iff.mpr (.inr (.inl hq))
  rw [Channel.crossed_unframed hframe]
  simp only [Channel.boundaryMoved, hframe, hq, if_true]
  exact Channel.moved_state _ _

theorem Channel.crossed_held {c : Channel} (hframe : c.frameToKey = none) (hq : c.quietDecided = false) (hh : c.holdPending = true) (now : RunSec) :
    (c.crossed now).state = .held .host ∧ (c.crossed now).heldSince = some now := by
  rw [Channel.crossed_unframed hframe]
  simp only [Channel.boundaryMoved, hframe, hq, hh, if_true, Bool.false_eq_true, if_false]
  exact ⟨Channel.moved_state _ _, rfl⟩

theorem Channel.crossed_claimed {c : Channel} {id : Nat} (hq : c.quietDecided = false) (hh : c.holdPending = false) (hc : c.claim = some id)
    (now : RunSec) : (c.crossed now).state = .held .calendar ∧ (c.crossed now).heldBy = some id ∧ (c.crossed now).heldSince = some now := by
  have hframe : c.frameToKey = none := Channel.frameToKey_eq_none_iff.mpr (.inr (.inr (.inl (by simp [hc]))))
  rw [Channel.crossed_unframed hframe]
  simp only [Channel.boundaryMoved, hframe, hq, hh, hc, Bool.false_eq_true, if_false]
  exact ⟨Channel.moved_state _ _, rfl, rfl⟩

theorem Channel.crossed_cancelled {c : Channel} (hq : c.quietDecided = false) (hh : c.holdPending = false) (hc : c.claim = none)
    (hx : c.claimCancelled = true) (now : RunSec) : (c.crossed now).state = .cued := by
  have hframe : c.frameToKey = none := Channel.frameToKey_eq_none_iff.mpr (.inr (.inr (.inr hx)))
  rw [Channel.crossed_unframed hframe]
  simp only [Channel.boundaryMoved, hframe, hq, hh, hc, hx, Bool.false_eq_true, if_false, Bool.true_or, if_true]
  exact Channel.moved_state _ _

theorem Channel.crossed_stays {c : Channel} (hf : c.staged = none) (hq : c.quietDecided = false) (hh : c.holdPending = false) (hc : c.claim = none)
    (hx : c.claimCancelled = false) (hs : c.state ≠ .onAir) (now : RunSec) : (c.crossed now).state = c.state := by
  have hframe : c.frameToKey = none := Channel.frameToKey_eq_none_iff.mpr (.inl hf)
  rw [Channel.crossed_unframed hframe]
  simp only [Channel.boundaryMoved, hframe, hq, hh, hc, hx, Bool.false_eq_true, if_false, Bool.false_or, beq_iff_eq, hs]
  rfl

section
variable {n : Fin 4} {v : UtcSecond} {s : State}

/-- The channel as its boundary meets it. -/
def State.atBoundary (s : State) (n : Fin 4) (v : UtcSecond) : Channel := (s.chan n).secondBegun (s.secondAfter v)

theorem begun_crossed : ((s.beginChannelSecond n v).channelBoundary n).chan n = (s.atBoundary n v).crossed s.ret.runSeconds := by
  rw [channelBoundary_chan, if_pos rfl, beginChannelSecond_chan, if_pos rfl]
  rfl

theorem channelSecondStart_boundary (hv : (s.chan n).nextSecond = some v) (h0 : v.second = 0) :
    channelSecondStart n s = (((s.beginChannelSecond n v).channelBoundary n).keySecond n 0).openWindow n := by
  rw [channelSecondStart_begun hv, if_pos h0, h0]

/-- The channel after the start of its second 0: the boundary crossed, and the first symbol of a frame on the air keyed. -/
theorem channelSecondStart_boundary_chan (hv : (s.chan n).nextSecond = some v) (h0 : v.second = 0) (m : Fin 4) :
    (channelSecondStart n s).chan m = if m = n then { (s.atBoundary n v).crossed s.ret.runSeconds with
      key := !(((s.beginChannelSecond n v).channelBoundary n).keyPlanFor n 0).isEmpty
      keyPlan := ((s.beginChannelSecond n v).channelBoundary n).keyPlanFor n 0 } else s.chan m := by
  rw [channelSecondStart_boundary hv h0, openWindow_chan, keySecond_chan, begun_crossed]
  by_cases hm : m = n
  · rw [if_pos hm, if_pos hm]
  · rw [if_neg hm, if_neg hm, channelBoundary_chan, if_neg hm, beginChannelSecond_chan, if_neg hm]

theorem channelSecondStart_boundary_frame (hv : (s.chan n).nextSecond = some v) (h0 : v.second = 0) :
    ∃ chans meter, channelSecondStart n s = { s.elapse (s.untilChannelSecond n v) with
      chans := chans, meter := meter, att := ((s.beginChannelSecond n v).channelBoundary n).att } := by
  rw [channelSecondStart_boundary hv h0, openWindow_eq, channelBoundary_frame]
  exact ⟨_, _, rfl⟩

end

/-- Settles O51: the boundary by what the channel holds, a frame, a decision, a hold, a claim, a cancelled one or nothing. -/
theorem channelBoundaryCarriesOut : Obligations.ChannelBoundaryCarriesOut := by
  intro n v s hr hv h0 c noFrame since later
  have hchan := channelSecondStart_boundary_chan hv h0
  have hhere := (hchan n).trans (if_pos rfl)
  have hbegun : s.atBoundary n v = { c with
      nextSecond := some (s.secondAfter v)
      inForce := if (s.secondAfter v).second = 0 then c.pendingAdvance.getD c.inForce else c.inForce
      pendingAdvance := if (s.secondAfter v).second = 0 then none else c.pendingAdvance } := Channel.secondBegun_eq _ _
  have hcrossed : ((s.beginChannelSecond n v).channelBoundary n).chan n = (s.atBoundary n v).crossed s.ret.runSeconds := begun_crossed
  obtain ⟨chans, meter, hframe⟩ := channelSecondStart_boundary_frame hv h0
  generalize hd : s.atBoundary n v = d at hhere hcrossed
  rw [hd] at hbegun
  have hkept := Channel.crossed_kept s.ret.runSeconds d
  have hsilent : d.frameToKey = none → (d.crossed s.ret.runSeconds).state ≠ .carrier → noFrame (channelSecondStart n s) := by
    intro hnone hcarrier
    have hunframed := Channel.crossed_unframed hnone s.ret.runSeconds
    obtain ⟨hoff, hempty⟩ := Channel.boundaryMoved_unframed hnone s.ret.runSeconds
    have hplan := keyPlanFor_silent (by rwa [hcrossed]) (by rw [hcrossed, hunframed]; exact hoff) 0
    refine ⟨?_, ?_, ?_⟩
    · rw [hhere, hunframed]; exact hempty
    · rw [hhere, hplan]; rfl
    · have hmarked : d.opened.arbiter.mark = c.arbiter.mark := by rw [hbegun]; rfl
      have hmark := hkept.mark.trans hmarked
      rw [hhere]
      rw [hunframed] at hmark ⊢
      exact congrArg (Arbiter.mk none []) hmark
  have hcases : ∀ st, (d.crossed s.ret.runSeconds).state = st → d.frameToKey = none → st ≠ .carrier →
      ((channelSecondStart n s).chan n).state = st ∧ noFrame (channelSecondStart n s) := fun st hst hnone hne =>
    ⟨by rw [hhere]; exact hst, hsilent hnone (by rwa [hst])⟩
  refine ⟨_, exec_channelSecondStart hr, by rw [hframe]; rfl, by rw [hframe]; rfl, by rw [hframe]; rfl, fun m hm => by rw [hchan, if_neg hm],
    by rw [hhere]; exact hkept.staged, by rw [hhere]; exact hkept.holdPending, by rw [hhere]; exact hkept.claim,
    by rw [hhere]; exact hkept.quietDecided, by rw [hhere, hbegun] at *; exact hkept.cfg, by rw [hhere, hbegun] at *; exact hkept.history,
    fun _ hmoved => ?_, fun f hf hlater => ?_, fun hq => ?_, fun hstaged hq hh => ?_, fun id hq hh hc => ?_,
    fun hq hh hc hx => ?_, fun hf hq hh hc hx hs => ?_⟩
  · have hboundary := channelBoundary_raises (n := n) (s := s.beginChannelSecond n v) (by
      rw [hcrossed, beginChannelSecond_chan, if_pos rfl, Channel.secondBegun_state]
      rw [hhere] at hmoved
      exact hmoved)
    rw [hframe]
    exact hboundary
  · obtain ⟨hs, hf'⟩ := Channel.crossed_framed (c := d) (Channel.frameToKey_some (by rw [hbegun]; exact hf) (by rw [hbegun]; exact hlater)) s.ret.runSeconds
    refine ⟨by rw [hhere]; exact hs, by rw [hhere]; exact hf', fun hx => ?_⟩
    have hplan := keyPlanFor_onAir (by rwa [hcrossed]) (by rwa [hcrossed]) hx
    rw [hhere, hplan, Symbol.plan_ne_nil]
    rfl
  · have hq' : d.quietDecided = true := by rw [hbegun]; exact hq
    exact hcases _ (Channel.crossed_quiet hq' _) (Channel.frameToKey_eq_none_iff.mpr (.inr (.inl hq'))) (by simp)
  · have hnone : d.frameToKey = none := Channel.frameToKey_eq_none_iff.mpr (by rw [hbegun]; exact hstaged)
    obtain ⟨hs, hsince⟩ := Channel.crossed_held hnone (by rw [hbegun]; exact hq) (by rw [hbegun]; exact hh) s.ret.runSeconds
    obtain ⟨hs', hno⟩ := hcases _ hs hnone (by simp)
    exact ⟨hs', by rw [hhere]; exact hsince, hno⟩
  · have hc' : d.claim = some id := by rw [hbegun]; exact hc
    have hnone : d.frameToKey = none := Channel.frameToKey_eq_none_iff.mpr (.inr (.inr (.inl (by simp [hc']))))
    obtain ⟨hs, hby, hsince⟩ := Channel.crossed_claimed (by rw [hbegun]; exact hq) (by rw [hbegun]; exact hh) hc' s.ret.runSeconds
    obtain ⟨hs', hno⟩ := hcases _ hs hnone (by simp)
    exact ⟨hs', by rw [hhere]; exact hby, by rw [hhere]; exact hsince, hno⟩
  · have hx' : d.claimCancelled = true := by rw [hbegun]; exact hx
    exact hcases _ (Channel.crossed_cancelled (by rw [hbegun]; exact hq) (by rw [hbegun]; exact hh) (by rw [hbegun]; exact hc) hx' _)
      (Channel.frameToKey_eq_none_iff.mpr (.inr (.inr (.inr hx')))) (by simp)
  · have hstate : d.state = c.state := by rw [hbegun]
    have hf' : d.staged = none := by rw [hbegun]; exact hf
    have hne : c.state ≠ .onAir ∧ c.state ≠ .carrier := by rcases hs with h | h | h <;> simp [h]
    obtain ⟨hair, hcarrier⟩ := hne
    refine hcases _ ?_ (Channel.frameToKey_eq_none_iff.mpr (.inl hf')) hcarrier
    rw [← hstate]
    exact Channel.crossed_stays hf' (by rw [hbegun]; exact hq) (by rw [hbegun]; exact hh) (by rw [hbegun]; exact hc) (by rw [hbegun]; exact hx)
      (by rwa [hstate]) _

end Sys2Proof.Machine
end

section
/-! WITHDRAW CHANGE and RETIRE CHANGE (R91 to R93): an entry out of the ring, the causes that a release can raise, and the requests by the entry's state. -/

namespace Sys2Proof.Machine

/-! ### The causes of a channel's moves -/

/-- At most the causes of the mask `m` are raised, and none is cleared. -/
structure State.Raises (m : BitVec 13) (s t : State) : Prop where
  att : t.att = { s.att with flags := t.att.flags }
  within : t.att.flags ||| m = s.att.flags ||| m
  kept : s.att.flags ||| t.att.flags = t.att.flags

/-- CHANNEL EVENT and MEASUREMENT ENDED. -/
abbrev State.RaisesChannelCauses : State → State → Prop := State.Raises 0x0060

section
variable {m : BitVec 13} {s t u : State}

theorem State.Raises.of_att (h : t.att = s.att) : s.Raises m t := ⟨by rw [h], by rw [h], by rw [h, BitVec.or_self]⟩

theorem State.Raises.trans (h : s.Raises m t) (k : t.Raises m u) : s.Raises m u := by
  refine ⟨?_, k.within.trans h.within, ?_⟩
  · rw [k.att, h.att]
  · rw [← k.kept, ← BitVec.or_assoc, h.kept]

theorem State.Raises.after (k : t.Raises m u) (h : t.att = s.att) : s.Raises m u := (State.Raises.of_att h).trans k

theorem State.Raises.raise (h : s.Raises m t) {c : Cause} (hc : c.weight ||| m = m) : s.Raises m (t.raise c) := by
  refine h.trans ⟨rfl, ?_, ?_⟩
  · show (t.att.flags ||| c.weight) ||| m = _
    rw [BitVec.or_assoc, hc]
  · show t.att.flags ||| (t.att.flags ||| c.weight) = _
    rw [← BitVec.or_assoc, BitVec.or_self]
    rfl

theorem State.Raises.mono (h : s.Raises m t) {k : BitVec 13} (hk : m ||| k = k) : s.Raises k t :=
  ⟨h.att, by rw [← hk, ← BitVec.or_assoc, h.within, BitVec.or_assoc], h.kept⟩

/-- A flag outside the mask stays as it is. -/
theorem State.Raises.bit (h : s.Raises m t) {k : Nat} (hk : m.getLsbD k = false) : t.att.flags.getLsbD k = s.att.flags.getLsbD k := by
  have hbit := congrArg (fun x : BitVec 13 => x.getLsbD k) h.within
  simpa only [BitVec.getLsbD_or, hk, Bool.or_false] using hbit

/-- A flag that stands goes on standing. -/
theorem State.Raises.stands (h : s.Raises m t) {k : Nat} (hk : s.att.flags.getLsbD k = true) : t.att.flags.getLsbD k = true := by
  rw [← h.kept, BitVec.getLsbD_or, hk, Bool.true_or]

end

theorem closeMeter_causes (w : Working) (o : MeterOutcome) (a : Bool) (s : State) : s.RaisesChannelCauses (s.closeMeter w o a) :=
  (State.Raises.of_att (s := s) (t := { s with meter := (s.closeMeter w o a).meter }) rfl).raise (c := .measurementEnded) rfl

theorem abortMeasurementOn_causes (n : Fin 4) (s : State) : s.RaisesChannelCauses (s.abortMeasurementOn n) := by
  fun_cases State.abortMeasurementOn
  case case2 =>
    fun_cases State.abortMeasurement
    case case1 => exact .of_att rfl
    case case2 => exact (closeMeter_causes _ _ _ _).after rfl
  all_goals exact .of_att rfl

theorem moveChannel_causes (n : Fin 4) (st : ChannelState) (s : State) : s.RaisesChannelCauses (s.moveChannel n st) := by
  unfold State.moveChannel
  split
  · exact .of_att rfl
  · exact (abortMeasurementOn_causes n (s.modifyChan n (Channel.enter st))).after rfl

theorem startResuming_causes (n : Fin 4) (s : State) : s.RaisesChannelCauses (s.startResuming n) :=
  (moveChannel_causes n .resuming s).trans (.of_att rfl)

theorem releaseChannel_causes (i : Nat) (n : Fin 4) (s : State) : s.RaisesChannelCauses (s.releaseChannel i n) := by
  fun_cases State.releaseChannel
  case case2 => exact (startResuming_causes n s).raise rfl
  all_goals exact .of_att rfl

theorem release_causes (i : Nat) (s : State) : s.RaisesChannelCauses (s.release i) :=
  (((releaseChannel_causes i 0 s).trans (releaseChannel_causes i 1 _)).trans (releaseChannel_causes i 2 _)).trans (releaseChannel_causes i 3 _)

/-! ### What a release does to a channel -/

section
variable {i : Nat} {start : Moment} {now : RunSec} {c : Channel}

theorem Channel.released_resumes (hs : c.state = .held .calendar) (hby : c.heldBy = some i) (hlen : c.history.length < 4) :
    c.released i start now = c.resuming start now := by
  rw [Channel.released, if_pos ⟨hs, hby⟩, Channel.not_spent_iff.mpr hlen]
  rfl

theorem Channel.released_defers (hs : c.state = .held .calendar) (hby : c.heldBy = some i) (hlen : 4 ≤ c.history.length) :
    c.released i start now = { c with heldBy := none, resumeDeferred := true } := by
  rw [Channel.released, if_pos ⟨hs, hby⟩, Channel.spent_iff.mpr hlen]
  rfl

theorem Channel.released_unclaims (hheld : ¬(c.state = .held .calendar ∧ c.heldBy = some i)) (hc : c.claim = some i) :
    c.released i start now = { c with claim := none, claimCancelled := true } := by
  rw [Channel.released, if_neg hheld, if_pos hc]

theorem Channel.released_unnamed (hheld : ¬(c.state = .held .calendar ∧ c.heldBy = some i)) (hc : c.claim ≠ some i) :
    c.released i start now = c := by
  rw [Channel.released, if_neg hheld, if_neg hc]

end

/-! ### An entry out of the ring -/

section
variable {i : Nat} {s : State}

theorem leaveRing_absent (h : i ∉ s.cal.ring) : s.leaveRing i = s := if_neg h

theorem leaveRing_present (h : i ∈ s.cal.ring) : s.leaveRing i = { s with
    cal := { s.cal with ring := s.cal.ring.filter fun j => j ≠ i }
    chans := s.chans.map fun c => { c with arbiter := c.arbiter.forget i } } := if_pos h

theorem removeEntry_absent (h : i ∉ s.cal.ring) :
    s.removeEntry i = { s with cal := { s.cal with entries := s.cal.entries.filter fun e => e.ident ≠ i } } := by
  unfold State.removeEntry
  rw [leaveRing_absent h]

theorem finishEntry_absent {e : Entry} (h : e.ident ∉ s.cal.ring) (o : EntryOutcome) :
    s.finishEntry e o = { s with cal := (s.finishEntry e o).cal } := by
  unfold State.finishEntry
  rw [leaveRing_absent h]
  dsimp only
  split
  · rw [removeEntry_absent (s := s.modifyEntry e.ident _) h]; rfl
  · rfl

/-- A finished entry that was not in the ring is removed or DONE where it stands. -/
theorem finishEntry_cal_absent {e : Entry} (hs : s.cal.sound) (he : e ∈ s.cal.entries) (hout : e.state.inRing = false) (o : EntryOutcome) :
    (s.finishEntry e o).cal = { s.cal with
      entries := if e.autoRetire then s.cal.entries.filter fun x => x.ident ≠ e.ident
        else s.cal.entries.map fun x => if x.ident = e.ident then { x with state := .done, outcome := some o } else x } := by
  have habsent : e.ident ∉ s.cal.ring := fun h => by rw [hs.ident_mem_ring he, hout] at h; cases h
  rw [finishEntry_cal hs he]
  unfold Entry.finished
  split
  · rw [← removeEntry_cal, removeEntry_absent habsent]
  · rw [← leaveRing_modifyEntry_cal (f := fun x => { x with state := .done, outcome := some o }) hs he rfl, leaveRing_absent habsent]
    rfl

end

theorem Arbiter.forget_eq (i : Nat) (a : Arbiter) : a.forget i = { a with
    inService := if (∃ x ∈ a.inService, x.ident = i) then none else a.inService
    stack := a.stack.filter fun x => x.ident ≠ i } := by
  obtain ⟨slot, stack, mark⟩ := a
  cases slot with
  | none => simp [Arbiter.forget, Arbiter.keep]
  | some x =>
    by_cases hx : x.ident = i
    · simp [Arbiter.forget, Arbiter.keep, hx]
    · simp [Arbiter.forget, Arbiter.keep, hx]

/-! ### WITHDRAW CHANGE -/

theorem exec_withdrawChange {s : State} (h : s.listens) (d : Nat) (hi lo : Byte) :
    exec (.withdrawChange (.of d [hi, lo])) s = .next (ownWithdrawChange [hi, lo] (s.handed (.of d [hi, lo]))) :=
  congrArg Host.Outcome.next (takeRequest_of h rfl)

theorem ownWithdrawChange_absent {s : State} {hi lo : Byte} (h : s.openChange hi lo = none) :
    ownWithdrawChange [hi, lo] s = s.refuse 0x32 .noSuchChange := by
  simp only [ownWithdrawChange, h]

theorem ownWithdrawChange_open {s : State} {hi lo : Byte} {e : Entry} (h : s.openChange hi lo = some e) :
    ownWithdrawChange [hi, lo] s = match e.state with
      | .scheduled => (s.removeEntry e.ident).answer 0x32 .done []
      | .announcing => ((s.leaveRing e.ident).modifyEntry e.ident fun e => { e with state := .withdrawn }).answer 0x32 .done []
      | .committed | .inEffect => s.refuse 0x32 .locked
      | .done => s.refuse 0x32 .wrongState
      | .withdrawn => s.refuse 0x32 .noSuchChange := by
  simp only [ownWithdrawChange, h] <;> rfl

/-- An open entry, found by its ident. -/
theorem openChange_found {s : State} (hs : s.cal.sound) {e : Entry} (he : e ∈ s.cal.entries) {hi lo : Byte} (hident : e.ident = word16 hi lo)
    (hw : e.state ≠ .withdrawn) : s.openChange hi lo = some e := (openChange_of hs he hident).trans (if_neg hw)

theorem openChange_withdrawn {s : State} (hs : s.cal.sound) {e : Entry} (he : e ∈ s.cal.entries) {hi lo : Byte} (hident : e.ident = word16 hi lo)
    (hw : e.state = .withdrawn) : s.openChange hi lo = none := (openChange_of hs he hident).trans (if_pos hw)

/-- Settles O30: the entry found or not, and the row of its state. -/
theorem withdrawChangeByState : Obligations.WithdrawChangeByState := by
  intro d hi lo s h hsound p refused
  have hown : ∀ u, ownWithdrawChange [hi, lo] (s.handed p) = u → exec (.withdrawChange p) s = .next u := fun u hu =>
    (exec_withdrawChange h d hi lo).trans (congrArg Host.Outcome.next hu)
  refine ⟨fun hnone => ?_, fun e he hident => ?_⟩
  · exact hown _ (ownWithdrawChange_absent (openChange_absent (s := s.handed p) hnone))
  · have hopen := openChange_found (s := s.handed p) hsound he hident
    have hring := hsound.ident_mem_ring he
    refine ⟨fun hw => ?_, fun hlocked => ?_, fun hs => ?_, fun hs => ?_, fun hs => ?_⟩
    · exact hown _ (ownWithdrawChange_absent (openChange_withdrawn (s := s.handed p) hsound he hident hw))
    · rcases hlocked with hs | hs
      · exact hown _ ((ownWithdrawChange_open (hopen (by simp [hs]))).trans (by rw [hs]; rfl))
      · exact hown _ ((ownWithdrawChange_open (hopen (by simp [hs]))).trans (by rw [hs]; rfl))
    · exact hown _ ((ownWithdrawChange_open (hopen (by simp [hs]))).trans (by rw [hs]; rfl))
    · have hout : e.ident ∉ (s.handed p).cal.ring := by rw [State.handed_cal, hring, hs]; exact Bool.false_ne_true
      refine hown _ ((ownWithdrawChange_open (hopen (by simp [hs]))).trans ?_)
      rw [hs]
      dsimp only
      rw [removeEntry_absent hout]
      rfl
    · have hin : e.ident ∈ (s.handed p).cal.ring := by rw [State.handed_cal, hring, hs]; rfl
      refine hown _ ((ownWithdrawChange_open (hopen (by simp [hs]))).trans ?_)
      rw [hs]
      dsimp only
      rw [leaveRing_present hin]
      simp only [Arbiter.forget_eq]
      rfl

/-! ### RETIRE CHANGE -/

theorem exec_retireChange {s : State} (h : s.listens) (d : Nat) (hi lo : Byte) :
    exec (.retireChange (.of d [hi, lo])) s = .next (ownRetireChange [hi, lo] (s.handed (.of d [hi, lo]))) :=
  congrArg Host.Outcome.next (takeRequest_of h rfl)

theorem ownRetireChange_absent {s : State} {hi lo : Byte} (h : s.openChange hi lo = none) :
    ownRetireChange [hi, lo] s = s.refuse 0x33 .noSuchChange := by
  simp only [ownRetireChange, h]

theorem ownRetireChange_open {s : State} {hi lo : Byte} {e : Entry} (h : s.openChange hi lo = some e) :
    ownRetireChange [hi, lo] s = match e.state with
      | .done => (s.removeEntry e.ident).answer 0x33 .done []
      | .inEffect => ((s.finishEntry e .cutShort).release e.ident).answer 0x33 .done []
      | .scheduled | .announcing | .committed => s.refuse 0x33 .wrongState
      | .withdrawn => s.refuse 0x33 .noSuchChange := by
  simp only [ownRetireChange, h] <;> rfl

/-- A channel whose claim is cancelled becomes CUED at its boundary (R161). -/
theorem exec_channelSecondStart_cancelled {n : Fin 4} {v : UtcSecond} {t : State} (hr : t.running = true) (hv : (t.chan n).nextSecond = some v)
    (h0 : v.second = 0) (hq : (t.chan n).quietDecided = false) (hh : (t.chan n).holdPending = false) (hc : (t.chan n).claim = none)
    (hx : (t.chan n).claimCancelled = true) : ∃ u, exec (.channelSecondStart n) t = .next u ∧ (u.chan n).state = .cued := by
  refine ⟨_, exec_channelSecondStart hr, ?_⟩
  rw [channelSecondStart_boundary_chan hv h0, if_pos rfl]
  have hbegun : t.atBoundary n v = _ := Channel.secondBegun_eq (t.secondAfter v) (t.chan n)
  exact Channel.crossed_cancelled (by rw [hbegun]; exact hq) (by rw [hbegun]; exact hh) (by rw [hbegun]; exact hc) (by rw [hbegun]; exact hx) _

/-- Settles O31: the entry found or not, and the row of its state; a released channel by how it holds or claims the entry. -/
theorem retireChangeByState : Obligations.RetireChangeByState := by
  intro d hi lo s h hsound p refused
  have hown : ∀ u, ownRetireChange [hi, lo] (s.handed p) = u → exec (.retireChange p) s = .next u := fun u hu =>
    (exec_retireChange h d hi lo).trans (congrArg Host.Outcome.next hu)
  refine ⟨fun hnone => ?_, fun e he hident => ?_⟩
  · exact hown _ (ownRetireChange_absent (openChange_absent (s := s.handed p) hnone))
  · have hopen := openChange_found (s := s.handed p) hsound he hident
    have hring := hsound.ident_mem_ring he
    refine ⟨fun hw => ?_, fun hearly => ?_, fun hs => ?_, fun hs => ?_⟩
    · exact hown _ (ownRetireChange_absent (openChange_withdrawn (s := s.handed p) hsound he hident hw))
    · rcases hearly with hs | hs | hs
      · exact hown _ ((ownRetireChange_open (hopen (by simp [hs]))).trans (by rw [hs]; rfl))
      · exact hown _ ((ownRetireChange_open (hopen (by simp [hs]))).trans (by rw [hs]; rfl))
      · exact hown _ ((ownRetireChange_open (hopen (by simp [hs]))).trans (by rw [hs]; rfl))
    · have hout : e.ident ∉ (s.handed p).cal.ring := by rw [State.handed_cal, hring, hs]; exact Bool.false_ne_true
      refine hown _ ((ownRetireChange_open (hopen (by simp [hs]))).trans ?_)
      rw [hs]
      dsimp only
      rw [removeEntry_absent hout]
      rfl
    · intro entries
      have hout : e.ident ∉ (s.handed p).cal.ring := by rw [State.handed_cal, hring, hs]; exact Bool.false_ne_true
      have hrun : (s.handed p).running = true := by obtain ⟨hr, -⟩ := h; exact hr
      have hfinish : (s.handed p).finishEntry e .cutShort = { s.handed p with cal := { s.cal with entries := entries } } := by
        rw [finishEntry_absent hout, finishEntry_cal_absent (s := s.handed p) hsound he (by rw [hs]; rfl)]
        rfl
      have hcauses := release_causes e.ident { s.handed p with cal := { s.cal with entries := entries } }
      have hchan := fun n => release_chan e.ident n { s.handed p with cal := { s.cal with entries := entries } }
      have hframe := release_frame e.ident { s.handed p with cal := { s.cal with entries := entries } }
      generalize hu : State.release e.ident { s.handed p with cal := { s.cal with entries := entries } } = u at hcauses hchan hframe
      have hretired : ownRetireChange [hi, lo] (s.handed p) = u.answer 0x33 .done [] := by
        rw [ownRetireChange_open (hopen (by simp [hs])), hs, ← hu, ← hfinish]
      have hurun : u.running = true := by rw [hframe]; exact hrun
      refine ⟨_, hown _ hretired, ?_, hcauses.within, fun n hstate hby hlen => ?_, fun n hstate hby hlen => ?_, fun n hclaim hby => ?_,
        fun n hby hclaim _ => ?_⟩
      · have hatt := hcauses.att
        rw [answer_eq]
        conv_lhs => rw [hframe, hatt]
        rfl
      · have hres := (hchan n).trans (Channel.released_resumes hstate hby hlen)
        have hst : (u.chan n).state = .resuming := by rw [hres]; exact Channel.moved_state _ _
        refine ⟨hst, by rw [State.chan_answer, hres]; rfl, ?_⟩
        have hpin := carrierPin_eq hurun n
        rw [hst] at hpin
        exact hpin
      · exact (hchan n).trans (Channel.released_defers hstate hby hlen)
      · have hcleared : u.chan n = { s.chan n with claim := none, claimCancelled := true } :=
          (hchan n).trans (Channel.released_unclaims (fun hheld => hby hheld.2) hclaim)
        refine ⟨hcleared, fun v hv h0 hq hh => ?_⟩
        exact exec_channelSecondStart_cancelled (t := u.answer 0x33 .done []) hurun (by rw [State.chan_answer, hcleared]; exact hv) h0
          (by rw [State.chan_answer, hcleared]; exact hq) (by rw [State.chan_answer, hcleared]; exact hh)
          (by rw [State.chan_answer, hcleared]) (by rw [State.chan_answer, hcleared])
      · exact (hchan n).trans (Channel.released_unnamed (fun hheld => hby hheld.2) hclaim)

end Sys2Proof.Machine
end

section
/-! The Delay Meter's samples and results (R172 to R174), and the loss moment (R179 to R181). -/

namespace Sys2Proof.Machine

/-! ### Edges of CHn_MON -/

theorem exec_monitorEdge {s : State} (hr : s.running = true) (d : Nat) (n : Fin 4) (edge : Edge) :
    exec (.monitorEdge d n edge) s = .next (monitorEdge n edge (s.elapse d)) := congrArg Host.Outcome.next (if_pos hr)

/-- The measurement in flight after an edge of CHn_MON: a falling edge of the measured channel fixes the sample (R172). -/
def State.edgeTaken (s : State) (n : Fin 4) (edge : Edge) (w : Working) : Working :=
  if edge = .falling ∧ w.channel = n then { w with sample := s.sampleNow w } else w

theorem monitorEdge_eq (n : Fin 4) (edge : Edge) (s : State) : monitorEdge n edge s = { s with
    chans := s.chans.set n { s.chan n with monitorHigh := decide (edge = .rising) }
    meter := { s.meter with working := s.meter.working.map (s.edgeTaken n edge) } } := by
  have hidle : ∀ high, (s.setChan n { s.chan n with monitorHigh := high }) = { s with
      chans := s.chans.set n { s.chan n with monitorHigh := high }, meter := { s.meter with working := s.meter.working } } := fun _ => rfl
  unfold monitorEdge monitorLevel
  cases hw : s.meter.working with
  | none =>
    rw [hw] at hidle
    simp only [State.setChan_meter, hw, Option.map_none]
    cases edge with
    | rising => exact hidle true
    | falling => exact hidle false
  | some w =>
    rw [hw] at hidle
    cases edge with
    | rising =>
      rw [Option.map_some, State.edgeTaken, if_neg (by simp)]
      exact hidle true
    | falling =>
      simp only [State.setChan_meter, hw, Option.map_some, State.edgeTaken, true_and]
      split
      · rfl
      · exact hidle false

/-- Only the first falling edge in an open window gives a sample (R172). -/
theorem edgeTaken_unmoved {s : State} {n : Fin 4} {edge : Edge} {w : Working}
    (h : edge = .rising ∨ w.channel ≠ n ∨ w.window = none ∨ w.sample ≠ none) : s.edgeTaken n edge w = w := by
  unfold State.edgeTaken
  split
  · next hfall =>
    obtain ⟨hedge, hn⟩ := hfall
    have hkept : s.sampleNow w = w.sample := by
      unfold State.sampleNow
      split
      · next start hwin hsample =>
        rcases h with h | h | h | h
        · rw [hedge] at h; cases h
        · exact absurd hn h
        · rw [hwin] at h; cases h
        · exact absurd hsample h
      · rfl
    rw [hkept]
  · rfl

theorem sampleNow_open {s : State} {w : Working} {start : Nat} (hwin : w.window = some start) (hsample : w.sample = none) :
    s.sampleNow w = if (s.fin - start) / s.perMicro < 100000 then some ((s.fin - start) / s.perMicro) else none := by
  simp only [State.sampleNow, hwin, hsample]

/-! ### The end of a window -/

theorem exec_sampleWindowClose {s : State} (hr : s.running = true) : exec .sampleWindowClose s = .next (sampleWindowClose s) :=
  congrArg Host.Outcome.next (whenRunning_running hr 0 _)

theorem Working.closeWindow_eq (w : Working) : w.closeWindow = { w with
    taken := w.taken + 1, count := w.count + (if w.sample.isSome then 1 else 0), sum := w.sum + w.sample.getD 0
    least := match w.sample with | none => w.least | some v => some (match w.least with | none => v | some x => min x v)
    greatest := match w.sample with | none => w.greatest | some v => some (match w.greatest with | none => v | some x => max x v)
    window := none, sample := none } := by
  obtain ⟨_, _, _, _, _, _, _, _, _, sample⟩ := w
  cases sample <;> rfl

theorem sampleWindowClose_open {s : State} {w : Working} {start : Nat} (hw : s.meter.working = some w) (hwin : w.window = some start) :
    sampleWindowClose s =
      if w.seconds ≤ w.taken + 1 then (s.elapseTo (start + 100000 * s.perMicro)).endMeasurement w.closeWindow
      else { s.elapseTo (start + 100000 * s.perMicro) with
        meter := { (s.elapseTo (start + 100000 * s.perMicro)).meter with working := some w.closeWindow } } := by
  have htaken : w.closeWindow.taken = w.taken + 1 := by rw [Working.closeWindow_eq]
  simp only [sampleWindowClose, hw, hwin, htaken]

/-- What the end of the measurement `w` leaves (R173, R174). -/
structure State.Measured (w : Working) (s t : State) : Prop where
  frame : t = { s with chans := t.chans, meter := t.meter, att := { s.att with flags := s.att.flags ||| 0x0040 } }
  idle : t.meter.working = none
  results : t.meter.results = s.meter.results.set w.channel (some
    { outcome := w.outcome, long := w.long, count := w.count, mean := w.mean, spread := w.spread
      applied := decide (w.outcome = .valid ∧ w.apply = true) })
  others : ∀ m, m ≠ w.channel → t.chan m = s.chan m
  unapplied : ¬(w.outcome = .valid ∧ w.apply = true) → t.chans = s.chans
  applied : w.outcome = .valid → w.apply = true → t.chan w.channel = (s.chan w.channel).applyAdvance w.mean

theorem endMeasurement_measured (w : Working) (s : State) : s.Measured w (s.endMeasurement w) := by
  unfold State.endMeasurement
  split
  · next h =>
    obtain ⟨hvalid, happly⟩ := h
    refine ⟨rfl, rfl, ?_, fun m hm => ?_, fun hno => absurd ⟨hvalid, happly⟩ hno, fun _ _ => ?_⟩
    · rw [hvalid, happly]; rfl
    · rw [State.chan_closeMeter, State.chan_setChan, if_neg hm]
    · rw [State.chan_closeMeter, State.chan_setChan, if_pos rfl]
  · next h =>
    refine ⟨rfl, rfl, ?_, fun _ _ => rfl, fun _ => rfl, fun hvalid happly => absurd ⟨hvalid, happly⟩ h⟩
    rw [decide_eq_false h]; rfl

theorem Working.outcome_valid_iff {w : Working} : w.outcome = .valid ↔ w.needed ≤ w.count ∧ w.mean ≤ 50000 := by
  unfold Working.outcome
  split
  · next h => exact ⟨fun _ => h, fun _ => rfl⟩
  · next h => exact ⟨nofun, fun hv => absurd hv h⟩

theorem Working.outcome_of_not_valid {w : Working} (h : w.outcome ≠ .valid) : w.outcome = .noReturn :=
  if_neg (mt Working.outcome_valid_iff.mpr h)

/-- Settles O54: an edge by its kind and the window it meets; a window's end by whether it is the last. -/
theorem samplesMakeTheResult : Obligations.SamplesMakeTheResult := by
  constructor
  · intro d n edge s hr us
    refine ⟨_, exec_monitorEdge hr d n edge, ?_, fun hunmoved => ?_, fun w start hedge hw hn hwin hsample => ?_⟩
    · rw [monitorEdge_eq]; rfl
    · rw [monitorEdge_eq]
      refine congrArg (fun w => { s.meter with working := w }) ?_
      show s.meter.working.map _ = s.meter.working
      cases hw : s.meter.working with
      | none => rfl
      | some w => exact congrArg some (edgeTaken_unmoved (hunmoved.imp_right fun h => h w hw))
    · rw [monitorEdge_eq]
      show s.meter.working.map _ = _
      rw [hw, Option.map_some, State.edgeTaken, if_pos ⟨hedge, hn⟩, sampleNow_open hwin hsample]
      rfl
  · intro w start s hr hw hwin us total needed count sum least greatest mean valid
    have hclose := sampleWindowClose_open hw hwin
    generalize hc : w.closeWindow = w' at hclose
    rw [Working.closeWindow_eq] at hc
    have hchannel : w'.channel = w.channel := by rw [← hc]
    have happly : w'.apply = w.apply := by rw [← hc]
    have hvalid : w'.outcome = .valid ↔ valid := by rw [Working.outcome_valid_iff, ← hc]; rfl
    have hmean : w'.mean = mean := by rw [← hc]; rfl
    have hus : s.perMicro = us := rfl
    rw [hus] at hclose
    generalize hdue : start + 100000 * us = due at hclose
    refine ⟨_, exec_sampleWindowClose hr, ?_⟩
    rw [hclose]
    by_cases hlast : w.seconds ≤ w.taken + 1
    · rw [if_pos hlast]
      obtain ⟨hframe, hidle, hresults, hothers, hunapplied, happlied⟩ := endMeasurement_measured w' (s.elapseTo due)
      have hlast' : total ≤ w.taken + 1 := hlast
      rw [hchannel] at hresults hothers happlied
      rw [hmean] at happlied
      refine ⟨by rw [hframe]; rfl, by rw [hframe]; rfl, by rw [hframe]; rfl, hothers, fun hmore => absurd hmore (Nat.not_lt.mpr hlast'), fun _ =>
        ⟨hidle, by rw [hframe]; rfl, ?_, fun hno => ?_, fun hv ha hs => ?_, fun hv ha hs => ?_⟩⟩
      · have houtcome : w'.outcome = if valid then .valid else .noReturn := by
          split
          · next hv => exact hvalid.mpr hv
          · next hv => exact Working.outcome_of_not_valid (mt hvalid.mp hv)
        have happlied' : decide (w'.outcome = .valid ∧ w'.apply = true) = decide (valid ∧ w.apply = true) :=
          decide_eq_decide.mpr (and_congr hvalid (by rw [happly]))
        rw [hresults, happlied', houtcome, hmean, ← hc]
        rfl
      · exact hunapplied (by rw [hvalid, happly]; exact hno)
      · exact (happlied (hvalid.mpr hv) (happly.trans ha)).trans (if_pos hs)
      · exact (happlied (hvalid.mpr hv) (happly.trans ha)).trans (if_neg hs)
    · rw [if_neg hlast]
      have hmore : ¬total ≤ w.taken + 1 := hlast
      refine ⟨rfl, rfl, rfl, fun _ _ => rfl, fun _ => ⟨rfl, rfl, ?_⟩, fun hdone => absurd hdone hmore⟩
      rw [← hc]; rfl

/-! ### The loss moment -/

theorem lossRecord_first {s : State} (h : s.ret.loss = none) (q : Ticks) : s.lossRecord q = some
    { time := s.tb.time.map fun u => ⟨u.minute, u.second, s.phase⟩, run := s.ret.runSeconds, fraction := q } := by
  simp only [State.lossRecord, h, State.moment]

/-- What a loss moment leaves of a part that ran (R179, R180). -/
structure State.Lost (q : Ticks) (s t : State) : Prop where
  keys : ∀ n : Fin 4, (t.chan n).key = false
  retained : ∀ n : Fin 4, (t.chan n).cfg = (s.chan n).cfg ∧ (t.chan n).history = (s.chan n).history
  cal : t.cal = s.cal
  profiles : t.profiles = s.profiles
  pending : t.pending = s.pending
  revertive : t.mon.revertive = s.mon.revertive
  refs : ∀ r, (t.ref r).enabled = (s.ref r).enabled ∧ (t.ref r).polarity = (s.ref r).polarity ∧ (t.ref r).priority = (s.ref r).priority
  ret : t.ret = { s.ret with fraction := q, loss := s.lossRecord q, marker := t.ret.marker }

theorem lossMoment_lost {s : State} (hr : s.running = true) (q : Ticks) : s.Lost q (s.lossMoment q) := by
  have hlost : s.lossMoment q = ({ s with ret := { s.ret with fraction := q, loss := s.lossRecord q } } : State).restarted none := if_pos hr
  refine ⟨fun n => (lossMoment_released hr q n).1, fun n => ?_, lossMoment_cal q s, ?_, lossMoment_pending q s, ?_, fun r => ?_, ?_⟩
  · rw [hlost, restarted_chan]; exact ⟨rfl, rfl⟩
  · rw [hlost]; rfl
  · rw [hlost]; rfl
  · rw [hlost]; cases r <;> exact ⟨rfl, rfl, rfl⟩
  · rw [hlost]; rfl

theorem lossMoment_vdd (q : Ticks) (s : State) : (s.lossMoment q).vdd = s.vdd := by unfold State.lossMoment; split <;> rfl
theorem lossMoment_resetN (q : Ticks) (s : State) : (s.lossMoment q).resetN = s.resetN := by unfold State.lossMoment; split <;> rfl
theorem lossMoment_marker (q : Ticks) (s : State) : (s.lossMoment q).ret.marker = s.ret.marker := by unfold State.lossMoment; split <;> rfl

/-- The record a stopped part keeps of its loss. -/
theorem lossMoment_loss_stopped {s : State} (hr : s.running = false) (q : Ticks) : (s.lossMoment q).ret.loss = s.ret.loss := by
  rw [lossMoment_stopped hr]

theorem exec_vddLoss (d : Nat) (q : Ticks) (good : Bool) (s : State) :
    exec (.vddLoss d q good) s = .next (vddLoss q good (s.whenRunning d id)) := rfl

theorem exec_resetNLow (d : Nat) (q : Ticks) (s : State) : exec (.resetNLow d q) s = .next (resetNLow q (s.whenRunning d id)) := rfl

/-- Settles O55: either line takes the part's loss moment when it runs, and finds the loss record written when it does not. -/
theorem lossMomentReleasesEverything : Obligations.LossMomentReleasesEverything := by
  intro d q good s lost
  have hlost : ∀ t : State, s.running = true → (s.elapse d).Lost q t → t.running = false → lost t := by
    intro t hr h hstop
    refine ⟨fun n => ⟨?_, h.keys n⟩, ?_, ?_, hstop, h.cal, h.profiles, h.pending, h.retained, h.revertive, fun r => ?_, ?_, ?_, fun hnone => ?_⟩
    · simp only [State.carrierPin, hstop, Bool.false_and]
    · simp only [State.ready, hstop, Bool.false_and]
    · exact State.attnN_stopped hstop
    · have hrefs := h.refs r
      rwa [State.ref_elapse] at hrefs
    · rw [h.ret]; rfl
    · rw [h.ret]; rfl
    · rw [h.ret]
      exact lossRecord_first (s := s.elapse d) hnone q
  refine ⟨fun hr => ?_, fun hr => ?_, fun hr => ?_, fun hr => ?_, rfl⟩
  · obtain ⟨hvdd, hreset⟩ := running_iff.mp hr
    obtain ⟨hkeys, hretained, hcal, hprofiles, hpending, hrevertive, hrefs, hret⟩ := lossMoment_lost (s := s.elapse d) hr q
    have hwhen : vddLoss q good (s.whenRunning d id) = { (s.elapse d).lossMoment q with
        vdd := false, vbatGood := good, ret := { ((s.elapse d).lossMoment q).ret with marker := ((s.elapse d).lossMoment q).ret.marker && good } } := by
      rw [whenRunning_running hr]; exact if_pos hvdd
    refine ⟨_, (exec_vddLoss d q good s).trans (congrArg Host.Outcome.next hwhen), rfl, ?_, ?_, hlost _ hr ?_ rfl⟩
    · exact (lossMoment_resetN q (s.elapse d)).trans hreset
    · exact congrArg (· && good) (lossMoment_marker q (s.elapse d))
    · exact ⟨hkeys, hretained, hcal, hprofiles, hpending, hrevertive, hrefs, by rw [hret]⟩
  · obtain ⟨hvdd, hreset⟩ := running_iff.mp hr
    obtain ⟨hkeys, hretained, hcal, hprofiles, hpending, hrevertive, hrefs, hret⟩ := lossMoment_lost (s := s.elapse d) hr q
    have hwhen : resetNLow q (s.whenRunning d id) = { (s.elapse d).lossMoment q with resetN := false } := by
      rw [whenRunning_running hr]; exact if_pos hreset
    refine ⟨_, (exec_resetNLow d q s).trans (congrArg Host.Outcome.next hwhen), ?_, rfl, ?_, hlost _ hr ?_ ?_⟩
    · exact (lossMoment_vdd q (s.elapse d)).trans hvdd
    · exact lossMoment_marker q (s.elapse d)
    · exact ⟨hkeys, hretained, hcal, hprofiles, hpending, hrevertive, hrefs, hret⟩
    · exact Bool.and_false _
  · refine ⟨_, exec_vddLoss d q good s, ?_⟩
    rw [whenRunning_stopped hr, vddLoss]
    split
    · exact lossMoment_loss_stopped hr q
    · rfl
  · refine ⟨_, exec_resetNLow d q s, ?_⟩
    rw [whenRunning_stopped hr, resetNLow]
    split
    · exact lossMoment_loss_stopped hr q
    · rfl

end Sys2Proof.Machine
end

section
/-! The references' records: characters and messages (R23, R24), edges and verdicts (R21, R22, R25 to R27), and CONFIGURE REFERENCE (R19, R20). -/

namespace Sys2Proof.Machine

theorem setRef_frame (r : Ref) (x : RefRecord) (s : State) : s.setRef r x = { s with mon := (s.setRef r x).mon } := by cases r <;> rfl

theorem otherRef_ne (r : Ref) : otherRef r ≠ r := by cases r <;> simp [otherRef]

@[simp] theorem otherRef_otherRef (r : Ref) : otherRef (otherRef r) = r := by cases r <;> rfl

/-! ### CONFIGURE REFERENCE -/

theorem exec_configureReference {s : State} (h : s.listens) (d : Nat) (b line prio rev : Byte) :
    exec (.configureReference (.of d [b, line, prio, rev])) s =
      .next (ownConfigureReference [b, line, prio, rev] (s.handed (.of d [b, line, prio, rev]))) :=
  congrArg Host.Outcome.next (takeRequest_of h rfl)

theorem ownConfigureReference_refused {b line prio rev : Byte}
    (hbad : ∀ r x p v, ref? b = some r → lineByte? line = some x → inRange? 1 2 prio.toNat = some p → yesNo? rev ≠ some v) (s : State) :
    ownConfigureReference [b, line, prio, rev] s = s.refuse 0x13 .badParameter := by
  simp only [ownConfigureReference]
  split
  · next hr hx hp hv => exact absurd hv (hbad _ _ _ _ hr hx hp)
  · rfl

theorem ownConfigureReference_accepted {b line prio rev : Byte} {r : Ref} {on : Bool} {pol : Edge} {p : Nat} {v : Bool} (hr : ref? b = some r)
    (hx : lineByte? line = some (on, pol)) (hp : inRange? 1 2 prio.toNat = some p) (hv : yesNo? rev = some v) (s : State) :
    ownConfigureReference [b, line, prio, rev] s = (s.withReferenceRaised r on pol p v).answer 0x13 .done [] := by
  simp only [ownConfigureReference, hr, hx, hp, hv]
  rfl

theorem withReference_ref (r : Ref) (on : Bool) (pol : Edge) (p : Nat) (v : Bool) (s : State) :
    (s.withReference r on pol p v).ref r = (s.ref r).configure on pol p ∧
      (s.withReference r on pol p v).ref (otherRef r) = { s.ref (otherRef r) with priority := 3 - p } := by
  cases r <;> exact ⟨rfl, rfl⟩

theorem withReference_mon (r : Ref) (on : Bool) (pol : Edge) (p : Nat) (v : Bool) (s : State) :
    (s.withReference r on pol p v).mon.revertive = v ∧ (s.withReference r on pol p v).mon.selection = s.mon.selection ∧
      (s.withReference r on pol p v).mon.firstEdge = s.mon.firstEdge := by
  cases r <;> exact ⟨rfl, rfl, rfl⟩

/-- The references as configured, and the cause of a change of state (R20). -/
theorem withReferenceRaised_eq (r : Ref) (on : Bool) (pol : Edge) (p : Nat) (v : Bool) (s : State) :
    s.withReferenceRaised r on pol p v = { s with
      mon := (s.withReference r on pol p v).mon
      att := { s.att with flags :=
        if ((s.ref r).configure on pol p).state = (s.ref r).state then s.att.flags else s.att.flags ||| 0x0100 } } := by
  unfold State.withReferenceRaised
  split
  · next h => rw [withReference_frame]
  · next h => rw [withReference_frame]; rfl

section
variable {on : Bool} {pol : Edge} {p : Nat} {x : RefRecord}

theorem RefRecord.configure_disabled (hx : x.enabled = true) (hon : on = false) : x.configure on pol p =
    { ({ x with enabled := on, polarity := pol, priority := p } : RefRecord).runsCleared.unqualified with
      state := .off, anchor := none, lastLabel := none, lastVerdict := none, assembly := [], held := none } :=
  if_pos ⟨hx, by rw [hon]; exact Bool.false_ne_true⟩

theorem RefRecord.configure_enabled (hx : x.enabled = false) (hon : on = true) : x.configure on pol p =
    { ({ x with enabled := on, polarity := pol, priority := p } : RefRecord).runsCleared with
      state := .acquiring, anchor := none, lastLabel := none, held := none, assembly := [], lineError := false } := by
  unfold RefRecord.configure
  rw [if_neg (by simp [hx]), if_pos ⟨by simp [hx], hon⟩]

theorem RefRecord.configure_turned (hx : x.enabled = true) (hon : on = true) (hpol : pol ≠ x.polarity) : x.configure on pol p =
    { ({ x with enabled := on, polarity := pol, priority := p } : RefRecord).runsCleared.unqualified with anchor := none, held := none } := by
  unfold RefRecord.configure
  rw [if_neg (by simp [hon]), if_neg (by simp [hx]), if_pos ⟨hon, hpol⟩]

theorem RefRecord.configure_kept (hon : on = x.enabled) (hpol : on = true → pol = x.polarity) :
    x.configure on pol p = { x with enabled := on, polarity := pol, priority := p } := by
  unfold RefRecord.configure
  rw [if_neg (by simp [hon]), if_neg (by simp [hon]), if_neg fun h => h.2 (hpol h.1)]

theorem RefRecord.configure_written (on : Bool) (pol : Edge) (p : Nat) (x : RefRecord) :
    (x.configure on pol p).enabled = on ∧ (x.configure on pol p).polarity = pol ∧ (x.configure on pol p).priority = p := by
  fun_cases RefRecord.configure <;> exact ⟨rfl, rfl, rfl⟩

end

/-- Settles O16: the fields outside their values, and the record by the change written. -/
theorem configureReferenceWrites : Obligations.ConfigureReferenceWrites := by
  intro d b line prio rev s h p good
  refine ⟨fun hbad => ?_, fun hgood => ?_⟩
  · refine (exec_configureReference h d b line prio rev).trans (congrArg Host.Outcome.next (ownConfigureReference_refused ?_ _))
    intro r x q v hr hx hp hv
    obtain ⟨hb, -⟩ := ref?_eq_some_iff.mp hr
    obtain ⟨hline, -⟩ := lineByte?_eq_some_iff.mp hx
    obtain ⟨⟨hlo, hhi⟩, -⟩ := inRange?_eq_some_iff.mp hp
    obtain ⟨hrev, -⟩ := yesNo?_eq_some_iff.mp hv
    exact hbad ⟨hb, hline, hlo, hhi, hrev⟩
  · intro r on pol x
    obtain ⟨hb, hline, hlo, hhi, hrev⟩ := hgood
    have hown := ownConfigureReference_accepted (r := r) (on := on) (pol := pol) (p := prio.toNat) (v := decide (rev.toNat = 1))
      (ref?_eq_some_iff.mpr ⟨hb, rfl⟩) (lineByte?_eq_some_iff.mpr ⟨hline, rfl⟩) (inRange?_eq_some_iff.mpr ⟨⟨hlo, hhi⟩, rfl⟩)
      (yesNo?_eq_some_iff.mpr ⟨hrev, rfl⟩) (s.handed p)
    rw [withReferenceRaised_eq] at hown
    obtain ⟨href, hother⟩ := withReference_ref r on pol prio.toNat (decide (rev.toNat = 1)) (s.handed p)
    obtain ⟨hrevertive, hselection, hfirst⟩ := withReference_mon r on pol prio.toNat (decide (rev.toNat = 1)) (s.handed p)
    rw [State.ref_handed] at href hother hown
    obtain ⟨u, hu⟩ : ∃ u, ownConfigureReference [b, line, prio, rev] (s.handed p) = u := ⟨_, rfl⟩
    have hframe := hu.symm.trans hown
    have hmon : u.mon = ((s.handed p).withReference r on pol prio.toNat (decide (rev.toNat = 1))).mon := by rw [hframe]; rfl
    have hhere : u.ref r = x.configure on pol prio.toNat := (ref_congr hmon r).trans href
    refine ⟨u, (exec_configureReference h d b line prio rev).trans (congrArg Host.Outcome.next hu), by rw [hframe]; rfl,
      by rw [hmon]; exact hrevertive, by rw [hmon]; exact hselection, by rw [hmon]; exact hfirst, (ref_congr hmon _).trans hother, ?_⟩
    obtain ⟨hon, hpol, hprio⟩ := RefRecord.configure_written on pol prio.toNat x
    rw [hhere]
    refine ⟨hon, hpol, hprio, by rw [hframe]; rfl, fun hx hoff => ?_, fun hx hon => ?_, fun hx hon hpol => ?_, fun hon hpol => ?_⟩
    · rw [RefRecord.configure_disabled hx hoff]
      exact ⟨rfl, rfl, rfl, rfl, rfl, rfl, rfl, rfl, rfl, rfl, rfl, rfl⟩
    · rw [RefRecord.configure_enabled hx hon]
      exact ⟨rfl, rfl, rfl, rfl, rfl, rfl, rfl⟩
    · rw [RefRecord.configure_turned hx hon hpol]
      exact ⟨rfl, rfl, rfl, rfl, rfl, rfl, rfl, rfl, rfl, rfl, rfl⟩
    · exact RefRecord.configure_kept hon hpol

/-! ### Characters -/

theorem exec_referenceCharacter {s : State} (hr : s.running = true) (d : Nat) (r : Ref) (v : Byte) (parity stop : Bool) :
    exec (.referenceCharacter d r v parity stop) s = .next (referenceCharacter r v parity stop (s.elapse d)) :=
  congrArg Host.Outcome.next (whenRunning_running hr d _)

theorem parityRight_iff (v : Byte) (parity : Bool) :
    parityRight v parity = true ↔ (((List.range 8).filter fun k => v.getLsbD k).length + if parity then 1 else 0) % 2 = 1 := by
  rw [parityRight, onesOf, List.countP_eq_length_filter, beq_iff_eq]
  cases parity <;> rfl

theorem pastDeadline_iff {s : State} {r : Ref} :
    s.pastDeadline r = true ↔ ∃ a ∈ (s.ref r).anchor, (a + 950000) * s.perMicro < s.fin := by
  unfold State.pastDeadline
  cases (s.ref r).anchor <;> simp

section
variable {v : Byte} {late : Bool} {x : RefRecord}

theorem RefRecord.takeCharacter_first (h : x.assembly = []) :
    x.takeCharacter v late = { x with assembly := if v = 0xF5 then [v] else [] } := by
  unfold RefRecord.takeCharacter
  rw [h]
  rfl

theorem RefRecord.takeCharacter_overrun (hlo : 1 ≤ x.assembly.length) (hhi : x.assembly.length ≤ 7) (hv : v = 0xF5) :
    x.takeCharacter v late = { x with assembly := [v], lineError := true } := by
  unfold RefRecord.takeCharacter
  dsimp only
  rw [if_neg (by omega), if_pos ⟨hhi, hv⟩]

theorem RefRecord.takeCharacter_joins (hlo : 1 ≤ x.assembly.length) (hhi : x.assembly.length ≤ 8) (hv : v = 0xF5 → x.assembly.length = 8) :
    x.takeCharacter v late = { x with assembly := x.assembly ++ [v] } := by
  unfold RefRecord.takeCharacter
  dsimp only
  rw [if_neg (by omega), if_neg fun h => by have := hv h.2; omega, if_pos (by omega)]

theorem RefRecord.takeCharacter_tenth (h : x.assembly.length = 9) : x.takeCharacter v late =
    match message? (x.assembly ++ [v]) with
    | some m => { x with assembly := [], held := if late then x.held else some m }
    | none => { x with assembly := [], lineError := true } := by
  unfold RefRecord.takeCharacter
  exact (if_neg (by omega)).trans ((if_neg (by omega)).trans (if_neg (by omega)))

end

/-- Settles O23: an OFF line, a line error, and a character by what is in assembly; then the deadline of a message. -/
theorem charactersMakeMessages : Obligations.CharactersMakeMessages := by
  constructor
  · intro d r v parity stop s hr x ones late becomes
    have hexec := exec_referenceCharacter hr d r v parity stop
    have href : (s.elapse d).ref r = x := s.ref_elapse d r
    have hparity : parityRight v parity = true ↔ ones % 2 = 1 := parityRight_iff v parity
    have hlate : (s.elapse d).pastDeadline r = true ↔ late := by rw [pastDeadline_iff, href]; rfl
    have hwrong : x.state ≠ .off → (parityRight v parity && stop) = false → becomes { x with assembly := [], lineError := true } := fun hon hbad => by
      rw [referenceCharacter, href, hbad] at hexec
      exact hexec.trans (congrArg Host.Outcome.next ((if_neg hon).trans (if_neg Bool.false_ne_true)))
    have hright : x.state ≠ .off → ones % 2 = 1 → stop = true → becomes (x.takeCharacter v ((s.elapse d).pastDeadline r)) := fun hon hones hstop => by
      rw [referenceCharacter, href, hparity.mpr hones, hstop] at hexec
      show exec (.referenceCharacter d r v parity stop) s = _
      rw [hstop]
      exact hexec.trans (congrArg Host.Outcome.next ((if_neg hon).trans (if_pos rfl)))
    refine ⟨fun hoff => ?_, fun hon hbad => hwrong hon ?_, fun hon hones hstop => ?_⟩
    · rw [referenceCharacter, href] at hexec
      exact hexec.trans (congrArg Host.Outcome.next (if_pos hoff))
    · rcases hbad with hones | hstop
      · have hne : parityRight v parity = false := Bool.eq_false_iff.mpr fun h => by have := hparity.mp h; omega
        rw [hne, Bool.false_and]
      · rw [hstop, Bool.and_false]
    · have htaken := hright hon hones hstop
      refine ⟨fun hempty => ?_, fun hlo hhi hv => ?_, fun hlo hhi hv => ?_, fun c0 c1 c2 c3 c4 c5 c6 c7 c8 hchars => ?_⟩
      · rwa [RefRecord.takeCharacter_first hempty] at htaken
      · rwa [RefRecord.takeCharacter_overrun hlo hhi hv] at htaken
      · rwa [RefRecord.takeCharacter_joins hlo hhi hv] at htaken
      · intro m
        have hmessage : message? (x.assembly ++ [v]) = if c1 ^^^ c2 ^^^ c3 ^^^ c4 ^^^ c5 ^^^ c6 ^^^ c7 ^^^ c8 = v then some m else none := by
          rw [hchars]; rfl
        rw [RefRecord.takeCharacter_tenth (by rw [hchars]; rfl), hmessage] at htaken
        refine ⟨fun hcheck => ⟨fun hearly => ?_, fun hpast => ?_⟩, fun hcheck => ?_⟩
        · rw [if_pos hcheck, Bool.eq_false_iff.mpr (mt hlate.mp hearly)] at htaken
          exact htaken
        · rw [if_pos hcheck, hlate.mpr hpast] at htaken
          exact htaken
        · rw [if_neg hcheck] at htaken
          exact htaken
  · intro r a s hr ha hassembly
    refine congrArg Host.Outcome.next ((whenRunning_running hr 0 _).trans ?_)
    simp only [elapse_zero, lateMessage, ha, if_neg hassembly]
    rfl

/-! ### Edges without an anchor -/

theorem exec_referenceEdge {s : State} (hr : s.running = true) (d : Nat) (r : Ref) (edge : Edge) (pulse : Nat) :
    exec (.referenceEdge d r edge pulse) s = .next (referenceEdge r edge pulse (s.elapse d)) :=
  congrArg Host.Outcome.next (whenRunning_running hr d _)

theorem referenceEdge_ignored {s : State} {r : Ref} {edge : Edge} {pulse : Nat}
    (h : (s.ref r).state = .off ∨ edge ≠ (s.ref r).polarity ∨ pulse < 5) : referenceEdge r edge pulse s = s := if_pos h

theorem referenceEdge_first {s : State} {r : Ref} {edge : Edge} {pulse : Nat}
    (h : ¬((s.ref r).state = .off ∨ edge ≠ (s.ref r).polarity ∨ pulse < 5)) (ha : (s.ref r).anchor = none) :
    referenceEdge r edge pulse s = s.setRef r ((s.ref r).anchored s.intervalMicros) := by
  simp only [referenceEdge, if_neg h, ha]

theorem referenceEdge_next {s : State} {r : Ref} {edge : Edge} {pulse a : Nat}
    (h : ¬((s.ref r).state = .off ∨ edge ≠ (s.ref r).polarity ∨ pulse < 5)) (ha : (s.ref r).anchor = some a) :
    referenceEdge r edge pulse s =
      (s.setRef r { s.ref r with anchor := some s.intervalMicros }).reachVerdict r ((s.ref r).verdictAt a s.intervalMicros) := by
  simp only [referenceEdge, if_neg h, ha]

theorem RefRecord.anchored_lastLabel (x : RefRecord) (t : Nat) :
    (x.anchored t).lastLabel = if x.lineError = false ∧ x.held.isSome = true then x.held else x.lastLabel := by
  unfold RefRecord.anchored
  cases x.lineError <;> cases x.held <;> rfl

/-- Settles O19: an edge without effect, and the first edge of a reference. -/
theorem firstEdgeBecomesTheAnchor : Obligations.FirstEdgeBecomesTheAnchor := by
  intro d r edge pulse s hr x us
  have href : (s.elapse d).ref r = x := s.ref_elapse d r
  refine ⟨fun hno => ?_, fun hon hedge hpulse hanchor => ?_⟩
  · rw [exec_referenceEdge hr, referenceEdge_ignored (by rwa [href])]
  · have hyes : ¬(x.state = .off ∨ edge ≠ x.polarity ∨ pulse < 5) := by simp [hon, hedge, hpulse]
    rw [exec_referenceEdge hr, referenceEdge_first (by rw [href]; exact hyes) (by rwa [href]), href]
    have hanchored : x.anchored (s.elapse d).intervalMicros = { x with
        anchor := some (s.elapse d).intervalMicros, lastLabel := (x.anchored (s.elapse d).intervalMicros).lastLabel
        held := none, lineError := false } := rfl
    rw [hanchored, RefRecord.anchored_lastLabel]
    rfl

/-! ### Verdicts -/

theorem bumpRun_eq (n : Nat) : bumpRun n = min 65535 (n + 1) := rfl

/-- The record after a GOOD verdict (R26, R27). -/
theorem RefRecord.judged_good (x : RefRecord) : x.judged .good =
    { x.updateLabel x.held with
      lastVerdict := some .good, goodRun := bumpRun x.goodRun, faultRun := 0
      state := if x.state = .acquiring ∧ 10 ≤ bumpRun x.goodRun then .qualified else x.state
      disagreementReported := if x.state = .acquiring ∧ 10 ≤ bumpRun x.goodRun then false else x.disagreementReported } := by
  have hjudged : x.judged .good = ({ x.updateLabel x.held with lastVerdict := some .good } : RefRecord).qualify .good := rfl
  rw [hjudged, RefRecord.qualify, if_pos rfl]
  dsimp only
  have hstate : (x.updateLabel x.held).state = x.state := rfl
  have hgood : (x.updateLabel x.held).goodRun = x.goodRun := rfl
  have hreported : (x.updateLabel x.held).disagreementReported = x.disagreementReported := rfl
  rw [hstate, hgood]
  split
  · rfl
  · rw [← hstate, ← hreported]

/-- What another verdict makes of the record (R26, R27). -/
structure RefRecord.Faulted (v : Verdict) (x y : RefRecord) : Prop where
  anchor : y.anchor = x.anchor
  lastVerdict : y.lastVerdict = some v
  held : y.held = none
  lineError : y.lineError = false
  lastLabel : y.lastLabel = (x.updateLabel (if v = .noEdge then none else x.held)).lastLabel
  faultRun : y.faultRun = bumpRun x.faultRun
  state : y.state = if x.state = .qualified ∧ v ≠ .badLabel ∧ v ≠ .invalid ∧ bumpRun x.faultRun < 5 then .qualified else .acquiring
  goodRun : y.goodRun = if y.state = .qualified then x.goodRun else 0

theorem RefRecord.judged_faulted {v : Verdict} (hv : v ≠ .good) {x : RefRecord} (hon : x.state ≠ .off) : x.Faulted v (x.judged v) := by
  have hjudged : x.judged v =
    ({ x.updateLabel (if v = .noEdge then none else x.held) with lastVerdict := some v } : RefRecord).qualify v := rfl
  have hstate : ∀ held, (x.updateLabel held).state = x.state := fun _ => rfl
  have hfault : ∀ held, (x.updateLabel held).faultRun = x.faultRun := fun _ => rfl
  rw [hjudged, RefRecord.qualify, if_neg hv]
  dsimp only
  rw [hstate, hfault]
  split
  · next hq =>
    split
    · next hout =>
      have hno : ¬(x.state = .qualified ∧ v ≠ .badLabel ∧ v ≠ .invalid ∧ bumpRun x.faultRun < 5) := by
        rintro ⟨-, hb, hi, hf⟩
        rcases hout with h | h | h
        · exact hb h
        · exact hi h
        · omega
      exact ⟨rfl, rfl, rfl, rfl, rfl, rfl, (if_neg hno).symm, rfl⟩
    · next hin =>
      have hyes : x.state = .qualified ∧ v ≠ .badLabel ∧ v ≠ .invalid ∧ bumpRun x.faultRun < 5 :=
        ⟨hq, fun h => hin (.inl h), fun h => hin (.inr (.inl h)), by have := mt (fun h => Or.inr (Or.inr h)) hin; omega⟩
      exact ⟨rfl, rfl, rfl, rfl, rfl, rfl, by rw [if_pos hyes]; exact hq, (if_pos hq).symm⟩
  · next hq =>
    have hacquiring : x.state = .acquiring := by
      cases hx : x.state with
      | off => exact absurd hx hon
      | acquiring => rfl
      | qualified => exact absurd hx hq
    exact ⟨rfl, rfl, rfl, rfl, rfl, rfl, hacquiring.trans (if_neg (not_and_of_not_left _ hq)).symm, (if_neg hq).symm⟩

/-! ### A verdict taken -/

section
variable (r : Ref) (v : Verdict) (s : State)

/-- The causes, the link and the record after a verdict (R27, R32, R35). -/
theorem judge_eq : s.judge r v = { s with
    mon := (s.setRef r ((s.ref r).judged v)).mon
    att := { s.att with flags := if ((s.ref r).judged v).state = (s.ref r).state then s.att.flags else s.att.flags ||| 0x0100 }
    link := if (s.ref r).state = .qualified ∧ ((s.ref r).judged v).state ≠ .qualified ∧ s.link = .working (.adopting r)
      then .replyHeld [0x12, 0x0D] else s.link } := by
  have hset := setRef_frame r ((s.ref r).judged v) s
  generalize hm : (s.setRef r ((s.ref r).judged v)).mon = m at hset
  unfold State.judge
  dsimp only
  rw [hset]
  by_cases hst : ((s.ref r).judged v).state = (s.ref r).state
  · rw [if_pos hst, if_pos hst]
    split <;> rfl
  · rw [if_neg hst, if_neg hst]
    split
    · next h => rw [if_pos (show (s.ref r).state = .qualified ∧ _ ∧ s.link = _ from h)]; rfl
    · next h => rw [if_neg (show ¬((s.ref r).state = .qualified ∧ _ ∧ s.link = _) from h)]; rfl

theorem judge_ref (q : Ref) : (s.judge r v).ref q = if q = r then (s.ref r).judged v else s.ref q := by
  rw [judge_eq]
  exact (ref_congr rfl q).trans (State.ref_setRef r q _ s)

theorem judge_selection : (s.judge r v).mon.selection = s.mon.selection := by rw [judge_eq]; exact State.setRef_selection _ _ _

end

theorem exec_noEdge {s : State} (hr : s.running = true) (r : Ref) : exec (.noEdge r) s = .next (noEdge r s) :=
  congrArg Host.Outcome.next (whenRunning_running hr 0 _)

theorem reachVerdict_fault {v : Verdict} (hv : v ≠ .good) (r : Ref) (s : State) : s.reachVerdict r v = s.judge r v := if_neg hv

theorem exec_noEdge_judged {s : State} (hr : s.running = true) {r : Ref} {a : Nat} (hon : (s.ref r).state ≠ .off)
    (ha : (s.ref r).anchor = some a) {x : RefRecord} (hx : x = { s.ref r with anchor := some (a + 1000000) }) :
    exec (.noEdge r) s = .next (((s.elapse ((a + 1100000) * s.perMicro - s.fin)).setRef r x).judge r .noEdge) := by
  rw [exec_noEdge hr, hx]
  simp only [noEdge, ha, if_neg hon]
  rw [reachVerdict_fault (by simp)]
  rfl

/-- Settles O22: NO EDGE is a verdict other than GOOD, taken with the anchor moved on. -/
theorem noEdgeMovesTheAnchor : Obligations.NoEdgeMovesTheAnchor := by
  intro r a s hr hon ha x us
  obtain ⟨y, hy⟩ : ∃ y : RefRecord, y = { s.ref r with anchor := some (a + 1000000) } := ⟨_, rfl⟩
  have hstate : y.state = x.state := by rw [hy]
  have hrun : y.faultRun = x.faultRun := by rw [hy]
  have hlabel : (y.updateLabel none).lastLabel = x.lastLabel.map Message.advanced := by rw [hy]; rfl
  have hanchor : y.anchor = some (a + 1000000) := by rw [hy]
  have hno := exec_noEdge_judged hr hon ha hy
  have hus : s.perMicro = us := rfl
  rw [hus] at hno
  have href := judge_ref r .noEdge ((s.elapse ((a + 1100000) * us - s.fin)).setRef r y)
  have hhere := (href r).trans (if_pos rfl)
  have hthere := (href (otherRef r)).trans (if_neg (otherRef_ne r))
  rw [State.ref_setRef_same] at hhere
  rw [State.ref_setRef_other, State.ref_elapse] at hthere
  have hfaulted : y.Faulted .noEdge (y.judged .noEdge) := RefRecord.judged_faulted (by simp) (by rw [hstate]; exact hon)
  refine ⟨_, hno, ?_, ?_⟩
  · rw [judge_eq, setRef_frame]
  · rw [hhere, judge_selection, State.setRef_selection, State.elapse_mon]
    refine ⟨hfaulted.anchor.trans hanchor, hfaulted.lastVerdict, hfaulted.held, hfaulted.lineError, hfaulted.lastLabel.trans hlabel, ?_, ?_, hthere, rfl⟩
    · rw [hfaulted.faultRun, hrun, bumpRun_eq]
    · rw [hfaulted.state, hstate, hrun]
      simp only [ne_eq, reduceCtorEq, not_false_eq_true, true_and, bumpRun_eq]

end Sys2Proof.Machine
end

section
/-! The second evaluation (R29) and what the operations on station time leave of the references; the verdicts of an edge (R25 to R27). -/

namespace Sys2Proof.Machine

/-! ### What leaves the Reference Monitor as it is -/

@[simp] theorem abortMeasurement_mon (s : State) : s.abortMeasurement.mon = s.mon := by rw [abortMeasurement_frame]
@[simp] theorem deriveGrade_mon (s : State) : s.deriveGrade.mon = s.mon := by rw [deriveGrade_frame]
@[simp] theorem setLength_mon (s : State) : s.setLength.mon = s.mon := by rw [setLength_frame]
@[simp] theorem slew_mon (e : Int) (s : State) : (s.slew e).mon = s.mon := rfl
@[simp] theorem followSelection_mon (s : State) : s.followSelection.mon = s.mon := by rw [followSelection_frame]
@[simp] theorem minuteBoundary_mon (now : Nat) (s : State) : (s.minuteBoundary now).mon = s.mon := by rw [minuteBoundary_calendarOnly now s]
@[simp] theorem compositionInstant_mon (now : Nat) (s : State) : (s.compositionInstant now).mon = s.mon := by rw [compositionInstant_frame]
@[simp] theorem discontinuity_none_mon (s : State) : (s.discontinuity none).mon = s.mon := by rw [discontinuity_calendarOnly s]
@[simp] theorem placeChannels_mon (u : UtcSecond) (s : State) : (s.placeChannels u).mon = s.mon := rfl
@[simp] theorem placeLabel_mon (u : UtcSecond) (s : State) : (s.placeLabel u).mon = s.mon := rfl
@[simp] theorem askLeap_mon (u : UtcSecond) (s : State) : (s.askLeap u).mon = s.mon := by rw [askLeap_calendarOnly u s]

/-- A second's start hands on the second evaluation alone to the Reference Monitor. -/
@[simp] theorem handOn_mon (u : UtcSecond) (s : State) : (s.handOn u).mon = s.evaluate.mon := by
  unfold State.handOn
  dsimp only
  split
  · rw [minuteBoundary_mon, setLength_mon]
  · split
    · rw [compositionInstant_mon, setLength_mon]
    · rw [setLength_mon]

/-! ### A change of selection -/

theorem clearMismatch_ref (q : Option Ref) (r : Ref) (s : State) :
    (s.clearMismatch q).ref r = if q = some r then { s.ref r with leapMismatch := false } else s.ref r := by
  cases q with
  | none => rw [if_neg (by simp)]; rfl
  | some q =>
    have hset := State.ref_setRef q r { s.ref q with leapMismatch := false } s
    refine hset.trans ?_
    by_cases h : r = q
    · rw [if_pos h, if_pos (by rw [h]), h]
    · rw [if_neg h, if_neg (by simpa using Ne.symm h)]

section
variable (q : Option Ref) (s : State)

@[simp] theorem clearMismatch_selection : (s.clearMismatch q).mon.selection = s.mon.selection := by
  cases q with
  | none => rfl
  | some q => exact State.setRef_selection _ _ _

@[simp] theorem clearMismatch_revertive : (s.clearMismatch q).mon.revertive = s.mon.revertive := by
  cases q with
  | none => rfl
  | some q => exact State.setRef_revertive _ _ _

@[simp] theorem clearMismatch_att : (s.clearMismatch q).att = s.att := by
  cases q with
  | none => rfl
  | some q => exact State.setRef_att _ _ _

end

section
variable (sel : Option Ref) (first : Bool) (s : State)

@[simp] theorem select_selection : (s.select sel first).mon.selection = sel := by
  unfold State.select
  split
  · next h => exact h.symm
  · rfl

theorem select_firstEdge : (s.select sel first).mon.firstEdge = if sel = s.mon.selection then s.mon.firstEdge else first := by
  unfold State.select
  split <;> rfl

@[simp] theorem select_revertive : (s.select sel first).mon.revertive = s.mon.revertive := by
  unfold State.select
  split
  · rfl
  · exact (clearMismatch_revertive _ _).trans (clearMismatch_revertive _ _)

theorem select_att : (s.select sel first).att =
    { s.att with flags := if sel = s.mon.selection then s.att.flags else s.att.flags ||| 0x0100 } := by
  unfold State.select
  split
  · rfl
  · have hatt : ((s.clearMismatch s.mon.selection).clearMismatch sel).att = s.att := by rw [clearMismatch_att, clearMismatch_att]
    exact congrArg (fun a : Attention => { a with flags := a.flags ||| 0x0100 }) hatt

/-- The leap mismatch flag of a reference is cleared where its selection begins or ends (R29, R33). -/
theorem select_ref (r : Ref) : (s.select sel first).ref r =
    if sel ≠ s.mon.selection ∧ (s.mon.selection = some r ∨ sel = some r) then { s.ref r with leapMismatch := false } else s.ref r := by
  unfold State.select
  by_cases hsame : sel = s.mon.selection
  · rw [if_pos hsame, if_neg fun h => h.1 hsame]
  · have hcleared : ∀ t : State, (({ t with mon := { t.mon with selection := sel, firstEdge := first } } : State).raise .referenceChanged).ref r =
        t.ref r := fun t => by cases r <;> rfl
    rw [if_neg hsame, hcleared, clearMismatch_ref, clearMismatch_ref]
    by_cases hnew : sel = some r
    · have hmet : sel ≠ s.mon.selection ∧ (s.mon.selection = some r ∨ sel = some r) := ⟨hsame, .inr hnew⟩
      rw [if_pos hnew, if_pos hmet]
      split <;> rfl
    · rw [if_neg hnew]
      by_cases hold : s.mon.selection = some r
      · rw [if_pos hold, if_pos ⟨hsame, .inl hold⟩]
      · rw [if_neg hold, if_neg fun h => h.2.elim hold hnew]

end

/-! ### The second evaluation -/

/-- The candidate runs brought up to date (R29). -/
def State.runsUpdated (s : State) : State := { s with mon := { s.mon with a := s.mon.a.evaluated, b := s.mon.b.evaluated } }

@[simp] theorem runsUpdated_ref (r : Ref) (s : State) : s.runsUpdated.ref r = (s.ref r).evaluated := by cases r <;> rfl

/-- The selection made as an evaluation finds the references (R29). -/
def State.reselected (s : State) : State :=
  s.runsUpdated.select s.runsUpdated.selectionAfter (s.mon.selection.isNone && s.runsUpdated.selectionAfter.isSome)

theorem evaluate_reselected (s : State) : s.evaluate = s.reselected.followSelection := rfl

theorem evaluate_mon (s : State) : s.evaluate.mon = s.reselected.mon := followSelection_mon _

@[simp] theorem evaluated_candidate (x : RefRecord) : x.evaluated.candidate = x.candidate := rfl

/-- What an evaluation makes of a reference's record. -/
theorem evaluate_ref (r : Ref) (s : State) : s.evaluate.ref r =
    if s.runsUpdated.selectionAfter ≠ s.mon.selection ∧ (s.mon.selection = some r ∨ s.runsUpdated.selectionAfter = some r)
    then { (s.ref r).evaluated with leapMismatch := false } else (s.ref r).evaluated := by
  rw [ref_congr (evaluate_mon s), State.reselected, select_ref, runsUpdated_ref]
  rfl

theorem evaluate_selection (s : State) : s.evaluate.mon.selection = s.runsUpdated.selectionAfter := by
  rw [evaluate_mon, State.reselected, select_selection]

theorem evaluate_firstEdge (s : State) : s.evaluate.mon.firstEdge =
    if s.runsUpdated.selectionAfter = s.mon.selection then s.mon.firstEdge
    else s.mon.selection.isNone && s.runsUpdated.selectionAfter.isSome := by
  rw [evaluate_mon, State.reselected, select_firstEdge]
  rfl

/-! ### The fields of a record that its edges alone change -/

/-- The record with what its agreement, its selection and its candidacy change alone. -/
def RefRecord.Follows (x y : RefRecord) : Prop := y = { x with
  candidateRun := y.candidateRun, agreement := y.agreement, disagreementReported := y.disagreementReported
  leapMismatch := y.leapMismatch, carried := y.carried }

theorem RefRecord.Follows.refl (x : RefRecord) : x.Follows x := rfl

theorem RefRecord.Follows.trans {x y z : RefRecord} (h : x.Follows y) (k : y.Follows z) : x.Follows z := by
  unfold RefRecord.Follows at *
  rw [k, h]

/-- Every reference's record follows. -/
def State.RefsFollow (s t : State) : Prop := ∀ r, (s.ref r).Follows (t.ref r)

section
variable {s t u : State}

theorem State.RefsFollow.of_mon (h : t.mon = s.mon) : s.RefsFollow t := fun r => by rw [ref_congr h r]; exact .refl _

theorem State.RefsFollow.trans (h : s.RefsFollow t) (k : t.RefsFollow u) : s.RefsFollow u := fun r => (h r).trans (k r)

theorem State.RefsFollow.setRef {r : Ref} {x : RefRecord} (h : (s.ref r).Follows x) : s.RefsFollow (s.setRef r x) := by
  intro q
  rw [State.ref_setRef]
  split
  · next hq => rw [hq]; exact h
  · exact .refl _

end

theorem select_follow (sel : Option Ref) (first : Bool) (s : State) : s.RefsFollow (s.select sel first) := by
  intro r
  rw [select_ref]
  split
  · rfl
  · exact .refl _

theorem evaluate_follow (s : State) : s.RefsFollow s.evaluate := by
  intro r
  rw [evaluate_ref]
  split <;> rfl

theorem handOn_follow (u : UtcSecond) (s : State) : s.RefsFollow (s.handOn u) :=
  (evaluate_follow s).trans (.of_mon (handOn_mon u s))

@[simp] theorem endChannel_mon (n : Fin 4) (s : State) : (s.endChannel n).mon = s.mon := by rw [endChannel_frame]

theorem fallUnset_follow (s : State) : s.RefsFollow s.fallUnset := by
  have hend : ∀ t : State, (t.eachChannel State.endChannel).mon = t.mon := fun t => by
    simp only [State.eachChannel, endChannel_mon]
  unfold State.fallUnset
  refine State.RefsFollow.trans ?_ (.of_mon (hend _))
  refine State.RefsFollow.trans ?_ (.of_mon (deriveGrade_mon _))
  exact (State.RefsFollow.of_mon (t := { s.abortMeasurement with
    tb := { s.abortMeasurement.tb with state := .unset, time := none, elapsed := 0, measured := none, phaseError := 0 } })
    (abortMeasurement_mon s)).trans (select_follow _ _ _)

theorem nextStationSecond_follow (stepped : Bool) (u : UtcSecond) (s : State) : s.RefsFollow (s.nextStationSecond stepped u) := by
  have hask : s.RefsFollow (s.askLeap u) := .of_mon (askLeap_mon u s)
  unfold State.nextStationSecond
  dsimp only
  split
  · exact hask.trans (fallUnset_follow _)
  · refine hask.trans (State.RefsFollow.trans ?_ (handOn_follow _ _))
    split <;> exact .of_mon rfl

/-- The state in which the second that a placement begins is handed on. -/
def State.placedAt (s : State) (u : UtcSecond) : State :=
  let t := s.abortMeasurement.placeLabel u
  (({ t with
    tb := { t.tb with remainder := 0, measured := none, phaseError := 0, holdoverStart := none }
    chans := t.chans.map Channel.placed } : State).deriveGrade.discontinuity none).placeChannels u

theorem place_eq (u : UtcSecond) (s : State) : s.place u = (s.placedAt u).handOn u := rfl

@[simp] theorem placedAt_mon (u : UtcSecond) (s : State) : (s.placedAt u).mon = s.mon := by
  unfold State.placedAt
  rw [placeChannels_mon, discontinuity_none_mon, deriveGrade_mon]
  exact (placeLabel_mon u _).trans (abortMeasurement_mon s)

theorem place_follow (u : UtcSecond) (s : State) : s.RefsFollow (s.place u) :=
  (State.RefsFollow.of_mon (placedAt_mon u s)).trans (handOn_follow u _)

/-- The state in which a first-selection step moves the second in progress. -/
def State.stepping (s : State) : State :=
  ({ s.abortMeasurement with
    tb := { s.abortMeasurement.tb with remainder := 0, measured := none, phaseError := 0 }
    mon := { s.abortMeasurement.mon with firstEdge := false } } : State).deriveGrade

theorem stepping_follow (s : State) : s.RefsFollow s.stepping := by
  have hmon : s.stepping.mon = { s.mon with firstEdge := false } := by
    unfold State.stepping
    rw [deriveGrade_mon, abortMeasurement_mon]
  intro r
  unfold State.ref
  rw [hmon]
  cases r <;> exact .refl _

theorem stepPhase_eq (s : State) : s.stepPhase = match s.stepping.tb.time with
    | none => s.stepping
    | some u =>
      if s.phase < 500000 then ({ s.stepping with tb := { s.stepping.tb with elapsed := 0 } } : State).evaluate.setLength
      else s.stepping.nextStationSecond true u := rfl

theorem stepPhase_follow (s : State) : s.RefsFollow s.stepPhase := by
  rw [stepPhase_eq]
  refine (stepping_follow s).trans ?_
  split
  · exact .of_mon rfl
  · split
    · exact (State.RefsFollow.of_mon (t := { s.stepping with tb := { s.stepping.tb with elapsed := 0 } }) rfl).trans
        ((evaluate_follow _).trans (.of_mon (setLength_mon _)))
    · exact nextStationSecond_follow _ _ _

theorem measure_follow (s : State) : s.RefsFollow s.measure := by
  have hedge : ∀ t : State, t.mon = { s.mon with firstEdge := false } → s.RefsFollow t := fun t ht r => by
    unfold State.ref
    rw [ht]
    cases r <;> exact .refl _
  unfold State.measure
  dsimp only
  split
  · exact .of_mon rfl
  · split
    · exact stepPhase_follow s
    · refine hedge _ ?_
      rw [deriveGrade_mon]
      split
      · rfl
      · split <;> rfl

theorem adopt_follow (r : Ref) (l : Label) (s : State) : s.RefsFollow (s.adopt r l) := by
  have hlock : ∀ t : State, t.RefsFollow { t with tb := { t.tb with state := .locked }, mon := { t.mon with firstEdge := false } } :=
    fun t q => by cases q <;> exact .refl _
  have hagree : ∀ t : State, t.RefsFollow (t.setRef r { t.ref r with agreement := true, carried := false }) := fun t => .setRef rfl
  unfold State.adopt
  dsimp only
  exact (((select_follow _ _ s).trans (hagree _)).trans (hlock _)).trans (place_follow _ _)

theorem adoptOrCarry_follow (r : Ref) (l : Label) (s : State) : s.RefsFollow (s.adoptOrCarry r l) := by
  unfold State.adoptOrCarry
  split
  · exact .setRef rfl
  · exact adopt_follow r l s

theorem checkLeap_follow (r : Ref) (s : State) : s.RefsFollow (s.checkLeap r) := by
  have hraise : ∀ t : State, t.RefsFollow (t.raise .leapDisagree) := fun t => .of_mon rfl
  unfold State.checkLeap
  dsimp only
  split
  · exact .of_mon rfl
  · split
    · exact .setRef rfl
    · split
      · exact .of_mon rfl
      · exact (State.RefsFollow.setRef (r := r) (x := { s.ref r with leapMismatch := true }) rfl).trans (hraise _)

theorem goodEdge_follow (r : Ref) (l : Label) (s : State) : s.RefsFollow (s.goodEdge r l) := by
  have hclear : s.RefsFollow (s.setRef r { s.ref r with carried := false }) := .setRef rfl
  have hraise : ∀ t : State, t.RefsFollow (t.raise .timeDisagree) := fun t => .of_mon rfl
  unfold State.goodEdge
  dsimp only
  split
  · exact hclear.trans (adoptOrCarry_follow _ _ _)
  · split
    · exact (hclear.trans (checkLeap_follow _ _)).trans (measure_follow _)
    · split
      · split
        · exact hclear.trans (adoptOrCarry_follow _ _ _)
        · split
          · exact hclear
          · refine (hclear.trans (.setRef ?_)).trans (hraise _)
            rw [State.ref_setRef_same]
            rfl
      · exact hclear

theorem adoptRequested_follow (r : Ref) (l : Label) (s : State) : s.RefsFollow (s.adoptRequested r l) := by
  have hlink : ∀ (t : State) (k : Link), t.RefsFollow { t with link := k } := fun t k => .of_mon rfl
  unfold State.adoptRequested
  split
  · exact (hlink s _).trans (goodEdge_follow _ _ _)
  · split
    · exact (hlink s _).trans (goodEdge_follow _ _ _)
    · split
      · exact goodEdge_follow _ _ _
      · refine State.RefsFollow.trans ?_ (hlink _ _)
        refine State.RefsFollow.trans ?_ (adopt_follow _ _ _)
        split
        · exact checkLeap_follow _ _
        · exact .of_mon rfl

theorem judgeAgreement_follow (r : Ref) (s : State) : s.RefsFollow (s.judgeAgreement r) := by
  unfold State.judgeAgreement
  dsimp only
  split
  · exact .setRef rfl
  · exact .of_mon rfl

/-- What a GOOD verdict does after the judgement leaves of the records what the edges change. -/
theorem reachVerdict_follow (r : Ref) (v : Verdict) (s : State) : (s.judge r v).RefsFollow (s.reachVerdict r v) := by
  have hagree := judgeAgreement_follow r (s.judge r v)
  unfold State.reachVerdict
  dsimp only
  split
  · split
    · exact hagree
    · split
      · exact hagree.trans (adoptRequested_follow _ _ _)
      · exact hagree.trans (goodEdge_follow _ _ _)
  · exact .of_mon rfl

/-! ### The verdict of an edge -/

section
variable {x : RefRecord} {a now : Nat}

theorem onTime_eq_false_iff : onTime a now = false ↔ now < a + 999000 ∨ a + 1001000 < now := by
  simp only [onTime, Bool.and_eq_false_iff, decide_eq_false_iff_not]
  omega

theorem RefRecord.verdictAt_late (h : onTime a now = false) : x.verdictAt a now = .offTime := by
  simp only [RefRecord.verdictAt, h, Bool.not_false, if_true]

theorem RefRecord.verdictAt_empty (h : onTime a now = true) (hx : x.held = none) :
    x.verdictAt a now = if x.lineError then .lineError else .noMessage := by
  simp only [RefRecord.verdictAt, h, hx, Bool.not_true, Bool.false_eq_true, if_false]

theorem RefRecord.verdictAt_held (h : onTime a now = true) {m : Message} (hx : x.held = some m) : x.verdictAt a now =
    if x.lineError then .lineError
    else if m.label.valid = false ∨ ∃ l ∈ x.lastLabel, l.advanced.label ≠ m.label then .badLabel
    else if m.timeValid = false ∨ (m.leapInsert = true ∧ m.leapDelete = true) then .invalid
    else .good := by
  simp only [RefRecord.verdictAt, h, hx, Bool.not_true, Bool.false_eq_true, if_false, Bool.or_eq_true, Bool.not_eq_true', Bool.and_eq_true]
  cases x.lastLabel with
  | none => simp
  | some l => simp

/-- The first verdict of the table of R25 that applies. -/
theorem RefRecord.verdictAt_eq (x : RefRecord) (a now : Nat) : x.verdictAt a now =
    if now < a + 999000 ∨ a + 1001000 < now then .offTime
    else if x.held = none ∧ x.lineError = false then .noMessage
    else if x.lineError then .lineError
    else match x.held with
      | none => .noMessage
      | some m =>
        if m.label.valid = false ∨ ∃ l ∈ x.lastLabel, l.advanced.label ≠ m.label then .badLabel
        else if m.timeValid = false ∨ (m.leapInsert = true ∧ m.leapDelete = true) then .invalid
        else .good := by
  by_cases htime : now < a + 999000 ∨ a + 1001000 < now
  · exact (RefRecord.verdictAt_late (onTime_eq_false_iff.mpr htime)).trans (if_pos htime).symm
  · have hon : onTime a now = true := by rw [← Bool.not_eq_false]; exact mt onTime_eq_false_iff.mp htime
    rw [if_neg htime]
    cases hheld : x.held with
    | none => rw [RefRecord.verdictAt_empty hon hheld]; cases x.lineError <;> simp
    | some m => rw [RefRecord.verdictAt_held hon hheld]; simp

theorem RefRecord.verdictAt_ne_noEdge : x.verdictAt a now ≠ .noEdge := by
  unfold RefRecord.verdictAt
  repeat' split
  all_goals simp

/-- The last label after a verdict at an edge (R26). -/
theorem RefRecord.updateLabel_lastLabel (x : RefRecord) : (x.updateLabel x.held).lastLabel = match x.held with
    | none => x.lastLabel.map Message.advanced
    | some m => if m.label.valid = false then none else if x.lineError then x.lastLabel.map Message.advanced else some m := by
  unfold RefRecord.updateLabel
  cases x.held with
  | none => rfl
  | some m => cases hv : m.label.valid <;> simp [hv]

end

/-- The record after a GOOD edge, in what the edges change (R26, R27). -/
structure RefRecord.Qualified (x y : RefRecord) : Prop where
  anchor : y.anchor = x.anchor
  lastVerdict : y.lastVerdict = some .good
  held : y.held = none
  lineError : y.lineError = false
  lastLabel : y.lastLabel = (x.updateLabel x.held).lastLabel
  goodRun : y.goodRun = bumpRun x.goodRun
  faultRun : y.faultRun = 0
  state : y.state = if x.state = .acquiring ∧ bumpRun x.goodRun < 10 then .acquiring else .qualified

theorem RefRecord.judged_qualified {x : RefRecord} (hon : x.state ≠ .off) : x.Qualified (x.judged .good) := by
  rw [RefRecord.judged_good]
  refine ⟨rfl, rfl, rfl, rfl, rfl, rfl, rfl, ?_⟩
  show (if x.state = .acquiring ∧ 10 ≤ bumpRun x.goodRun then RefState.qualified else x.state) = _
  cases hs : x.state with
  | off => exact absurd hs hon
  | acquiring =>
    by_cases hten : 10 ≤ bumpRun x.goodRun
    · rw [if_pos ⟨rfl, hten⟩, if_neg fun h => Nat.not_lt.mpr hten h.2]
    · rw [if_neg fun h => hten h.2, if_pos ⟨rfl, Nat.lt_of_not_le hten⟩]
  | qualified => simp

theorem RefRecord.Qualified.follows {x y z : RefRecord} (h : x.Qualified y) (k : y.Follows z) : x.Qualified z := by
  obtain ⟨hanchor, hverdict, hheld, hline, hlabel, hgood, hfault, hstate⟩ := h
  rw [k]
  exact ⟨hanchor, hverdict, hheld, hline, hlabel, hgood, hfault, hstate⟩

theorem verdict_cases (v : Verdict) : v = .good ∨ v ≠ .good := by by_cases h : v = .good <;> simp [h]

theorem intervalMicros_elapse (d : Nat) (s : State) :
    (s.elapse d).intervalMicros = (2 * (s.fin + d) + s.perMicro) / (2 * s.perMicro) := rfl

/-- The edge reaches its verdict with the anchor moved to it. -/
theorem exec_referenceEdge_verdict {s : State} (hr : s.running = true) {d : Nat} {r : Ref} {edge : Edge} {pulse a now : Nat}
    (hon : (s.ref r).state ≠ .off) (hedge : edge = (s.ref r).polarity) (hpulse : 5 ≤ pulse) (ha : (s.ref r).anchor = some a)
    (hnow : (s.elapse d).intervalMicros = now) {x : RefRecord} (hx : x = { s.ref r with anchor := some now }) :
    exec (.referenceEdge d r edge pulse) s = .next (((s.elapse d).setRef r x).reachVerdict r ((s.ref r).verdictAt a now)) := by
  have href : (s.elapse d).ref r = s.ref r := s.ref_elapse d r
  have hyes : ¬((s.ref r).state = .off ∨ edge ≠ (s.ref r).polarity ∨ pulse < 5) := by simp [hon, hedge, hpulse]
  rw [exec_referenceEdge hr, referenceEdge_next (by rwa [href]) (by rwa [href]), hnow, href, hx]

/-- Settles O20: the first verdict of the table that applies, GOOD or a fault, and what it makes of the record. -/
theorem edgeReachesItsVerdict : Obligations.EdgeReachesItsVerdict := by
  intro d r edge pulse a s hr hon hedge hpulse ha x us now verdict
  have hverdict : (s.ref r).verdictAt a now = verdict := RefRecord.verdictAt_eq x a now
  obtain ⟨y, hy⟩ : ∃ y : RefRecord, y = { s.ref r with anchor := some now } := ⟨_, rfl⟩
  have hedged := exec_referenceEdge_verdict hr hon hedge hpulse ha (now := now) rfl hy
  rw [hverdict] at hedged
  have hstate : y.state = x.state := by rw [hy]
  have hgood : y.goodRun = x.goodRun := by rw [hy]
  have hfault : y.faultRun = x.faultRun := by rw [hy]
  have hanchor : y.anchor = some now := by rw [hy]
  have hlabel : (y.updateLabel y.held).lastLabel = match x.held with
      | none => x.lastLabel.map Message.advanced
      | some m => if m.label.valid = false then none else if x.lineError then x.lastLabel.map Message.advanced else some m := by
    rw [RefRecord.updateLabel_lastLabel, hy]
  have hjudge : (((s.elapse d).setRef r y).judge r verdict).ref r = y.judged verdict := by
    rw [judge_ref, if_pos rfl, State.ref_setRef_same]
  refine ⟨_, hedged, ?_⟩
  rcases verdict_cases verdict with hv | hv
  · have hq : y.Qualified ((((s.elapse d).setRef r y).reachVerdict r verdict).ref r) := by
      refine RefRecord.Qualified.follows ?_ (reachVerdict_follow r verdict _ r)
      rw [hjudge, hv]
      exact RefRecord.judged_qualified (by rwa [hstate])
    refine ⟨hq.anchor.trans hanchor, hq.lastVerdict.trans (congrArg some hv.symm), hq.held, hq.lineError, hq.lastLabel.trans hlabel, fun _ => ⟨?_, hq.faultRun, ?_⟩,
      fun hbad => absurd hv hbad⟩
    · rw [hq.goodRun, hgood, bumpRun_eq]
    · rw [hq.state, hstate, hgood, bumpRun_eq]
  · have hnoEdge : verdict ≠ .noEdge := by rw [← hverdict]; exact RefRecord.verdictAt_ne_noEdge
    have hf := RefRecord.judged_faulted hv (x := y) (by rwa [hstate])
    rw [reachVerdict_fault hv, hjudge]
    refine ⟨hf.anchor.trans hanchor, hf.lastVerdict, hf.held, hf.lineError, ?_, fun hgood => absurd hgood hv, fun _ => ⟨?_, ?_, ?_, ?_, ?_, ?_, ?_⟩⟩
    · exact hf.lastLabel.trans ((congrArg (fun held => (y.updateLabel held).lastLabel) (if_neg hnoEdge)).trans hlabel)
    · rw [hf.faultRun, hfault, bumpRun_eq]
    · rw [hf.state, hstate, hfault, bumpRun_eq]
    · rw [hf.goodRun, hgood]
    · rw [judge_eq, setRef_frame]
    · rw [judge_selection, State.setRef_selection, State.elapse_mon]
    · rw [judge_eq, State.ref_setRef_same, State.setRef_att, hstate]
      rfl
    · rw [judge_eq, State.ref_setRef_same, State.setRef_link, hstate]
      rfl

end Sys2Proof.Machine
end

section
/-! The arbiter's pass (R105 to R111) and the frame's table (R121 to R124, R128). -/

namespace Sys2Proof.Machine

/-! ### The most urgent of a list -/

theorem lowest_eq_none_iff {l : List Candidate} : lowest l = none ↔ l = [] := by
  cases l with
  | nil => simp [lowest]
  | cons c rest =>
    unfold lowest
    split
    · simp
    · split <;> simp

theorem lowest_spec {l : List Candidate} {c : Candidate} (h : lowest l = some c) : c ∈ l ∧ ∀ d ∈ l, c.level ≤ d.level := by
  induction l generalizing c with
  | nil => cases h
  | cons x rest ih =>
    unfold lowest at h
    split at h
    · next hnone =>
      cases h
      rw [lowest_eq_none_iff.mp hnone]
      simp
    · next d hd =>
      obtain ⟨hmem, hleast⟩ := ih hd
      split at h
      · next hle =>
        cases h
        refine ⟨List.mem_cons_self, fun e he => ?_⟩
        rcases List.mem_cons.mp he with rfl | he
        · exact le_rfl
        · exact hle.trans (hleast e he)
      · next hlt =>
        cases h
        refine ⟨List.mem_cons_of_mem _ hmem, fun e he => ?_⟩
        rcases List.mem_cons.mp he with rfl | he
        · omega
        · exact hleast e he

/-! ### What an arbiter holds -/

theorem Arbiter.holds_iff {a : Arbiter} {i : Nat} : a.holds i = true ↔ (∃ x ∈ a.inService, x.ident = i) ∨ ∃ x ∈ a.stack, x.ident = i := by
  unfold Arbiter.holds
  cases a.inService <;> simp

theorem Arbiter.not_holds_iff {a : Arbiter} {i : Nat} : a.holds i = false ↔ (∀ x ∈ a.inService, x.ident ≠ i) ∧ ∀ x ∈ a.stack, x.ident ≠ i := by
  rw [← Bool.not_eq_true, Arbiter.holds_iff]
  push Not
  rfl

theorem candidateOf_eq_some {cands : List Candidate} {i : Nat} {c : Candidate} (h : candidateOf cands i = some c) : c ∈ cands ∧ c.ident = i :=
  ⟨List.mem_of_find?_eq_some h, by simpa using List.find?_some h⟩

theorem candidateOf_isSome_iff {cands : List Candidate} {i : Nat} : (candidateOf cands i).isSome = true ↔ ∃ c ∈ cands, c.ident = i := by
  simp [candidateOf]

theorem candidateOf_ident {cands : List Candidate} (h : (cands.map Candidate.ident).Nodup) {c : Candidate} (hc : c ∈ cands) :
    candidateOf cands c.ident = some c := by
  obtain ⟨d, hd⟩ := Option.isSome_iff_exists.mp (candidateOf_isSome_iff.mpr ⟨c, hc, rfl⟩)
  obtain ⟨hmem, hident⟩ := candidateOf_eq_some hd
  rw [hd, List.inj_on_of_nodup_map h hmem hc hident]

/-- The records of the arbiter are those of candidates, with at most four stacked. -/
structure Arbiter.Fits (cands : List Candidate) (a : Arbiter) : Prop where
  served : ∀ x ∈ a.inService, ∃ c ∈ cands, c.ident = x.ident
  stacked : ∀ x ∈ a.stack, ∃ c ∈ cands, c.ident = x.ident
  length : a.stack.length ≤ 4

/-- The notice in service is that of a candidate no less urgent than any that is free. -/
def Arbiter.Serves (cands : List Candidate) (a : Arbiter) : Prop :=
  ∀ x ∈ a.inService, ∃ c ∈ cands, c.ident = x.ident ∧ ∀ f ∈ cands, a.holds f.ident = false → c.level ≤ f.level

section
variable {cands : List Candidate} {a : Arbiter}

theorem Arbiter.bestFree_spec {c : Candidate} (h : a.bestFree cands = some c) :
    c ∈ cands ∧ a.holds c.ident = false ∧ ∀ f ∈ cands, a.holds f.ident = false → c.level ≤ f.level := by
  obtain ⟨hmem, hleast⟩ := lowest_spec h
  obtain ⟨hc, hfree⟩ := List.mem_filter.mp hmem
  exact ⟨hc, by simpa using hfree, fun f hf hfree => hleast f (List.mem_filter.mpr ⟨hf, by simpa using hfree⟩)⟩

theorem Arbiter.bestFree_none (h : a.bestFree cands = none) {f : Candidate} (hf : f ∈ cands) : a.holds f.ident = true := by
  have hempty := lowest_eq_none_iff.mp h
  by_contra hno
  have hmem : f ∈ cands.filter fun c => !a.holds c.ident := List.mem_filter.mpr ⟨hf, by simpa using hno⟩
  rw [hempty] at hmem
  exact List.not_mem_nil hmem

theorem Arbiter.mem_stacked {c : Candidate} : c ∈ a.stacked cands ↔ ∃ x ∈ a.stack, candidateOf cands x.ident = some c := List.mem_filterMap

/-! ### Drop and Vacate -/

theorem Arbiter.drop_fits (h : a.stack.length ≤ 4) : (a.drop cands).Fits cands := by
  refine ⟨fun x hx => ?_, fun x hx => ?_, (List.length_filter_le _ _).trans h⟩
  · have hkept : (candidateOf cands x.ident).isSome = true := by
      simp only [Arbiter.drop, Arbiter.keep, Option.mem_def, Option.filter_eq_some_iff] at hx
      exact hx.2
    exact candidateOf_isSome_iff.mp hkept
  · exact candidateOf_isSome_iff.mp (List.mem_filter.mp hx).2

theorem Arbiter.vacate_fits (h : a.Fits cands) : a.vacate.Fits cands := by
  refine ⟨fun x hx => h.served x ?_, h.stacked, h.length⟩
  unfold Arbiter.vacate at hx
  dsimp only at hx
  split at hx
  · next y hy =>
    split at hx
    · cases hx
    · rw [hy]; exact hx
  · cases hx

/-! ### Challenge -/

/-- The challenger is the most urgent of the stacked and the free (R107). -/
theorem Arbiter.challenger_spec {c : Candidate} {fromStack : Bool} (h : a.challenger cands = some (c, fromStack)) :
    (∀ d ∈ a.stacked cands, c.level ≤ d.level) ∧ (∀ f ∈ cands, a.holds f.ident = false → c.level ≤ f.level) ∧
      (fromStack = true → c ∈ a.stacked cands) ∧ (fromStack = false → c ∈ cands) := by
  unfold Arbiter.challenger at h
  split at h
  · next x y hx hy =>
    obtain ⟨hxmem, hxleast⟩ := lowest_spec hx
    obtain ⟨hymem, -, hyleast⟩ := Arbiter.bestFree_spec hy
    split at h
    · next hle =>
      cases h
      exact ⟨hxleast, fun f hf hfree => hle.trans (hyleast f hf hfree), fun _ => hxmem, nofun⟩
    · next hlt =>
      cases h
      exact ⟨fun d hd => by have := hxleast d hd; omega, hyleast, nofun, fun _ => hymem⟩
  · next x hx hy =>
    cases h
    obtain ⟨hxmem, hxleast⟩ := lowest_spec hx
    have hnofree : ∀ f ∈ cands, a.holds f.ident = false → c.level ≤ f.level := fun f hf hfree => by
      rw [Arbiter.bestFree_none hy hf] at hfree
      cases hfree
    exact ⟨hxleast, hnofree, fun _ => hxmem, nofun⟩
  · next y hx hy =>
    cases h
    obtain ⟨hymem, -, hyleast⟩ := Arbiter.bestFree_spec hy
    exact ⟨fun d hd => by rw [lowest_eq_none_iff.mp hx] at hd; exact absurd hd List.not_mem_nil, hyleast, nofun, fun _ => hymem⟩
  · cases h

theorem Arbiter.challenger_none (h : a.challenger cands = none) : a.bestFree cands = none := by
  unfold Arbiter.challenger at h
  split at h
  · split at h <;> cases h
  · cases h
  · cases h
  · assumption

/-- What Challenge and Choose give: the records fit, and a notice in service is the most urgent but for those held. -/
structure Arbiter.Chosen (cands : List Candidate) (a : Arbiter) : Prop where
  fits : a.Fits cands
  serves : a.Serves cands

theorem mem_pushSlot {x y : Slot} {stack : List Slot} (h : y ∈ pushSlot x stack) : y = x ∨ y ∈ stack :=
  List.mem_cons.mp (List.mem_of_mem_take h)

theorem mem_pushSlot_of_lt {x y : Slot} {stack : List Slot} (hlen : stack.length < 4) (h : y = x ∨ y ∈ stack) : y ∈ pushSlot x stack := by
  rw [pushSlot, List.take_of_length_le (by simpa using hlen)]
  exact List.mem_cons.mpr h

theorem pushSlot_length (x : Slot) (stack : List Slot) : (pushSlot x stack).length ≤ 4 := pushSlot_length_le x stack

/-- The stacked challenger goes in service, and the notice displaced takes its place among the stacked (R108). -/
theorem Arbiter.challenge_fromStack {cur : Slot} {c : Candidate} (hfits : a.Fits cands) (hcur : a.inService = some cur)
    (hc : a.challenger cands = some (c, true)) : ({ a with
      inService := a.stack.find? fun x => x.ident == c.ident
      stack := pushSlot cur (a.stack.filter fun x => x.ident ≠ c.ident) } : Arbiter).Chosen cands ∧
      (a.stack.find? fun x => x.ident == c.ident).isSome = true := by
  obtain ⟨-, hfree, hstacked, -⟩ := Arbiter.challenger_spec hc
  obtain ⟨y, hy, hyc⟩ := Arbiter.mem_stacked.mp (hstacked rfl)
  obtain ⟨hcmem, hcident⟩ := candidateOf_eq_some hyc
  have hfound : (a.stack.find? fun x => x.ident == c.ident).isSome = true := List.find?_isSome.mpr ⟨y, hy, by simp [hcident]⟩
  have hlen : (a.stack.filter fun x => x.ident ≠ c.ident).length < 4 := by
    have hlt : (a.stack.filter fun x => x.ident ≠ c.ident).length < a.stack.length := by
      rw [List.length_filter_lt_length_iff_exists]
      exact ⟨y, hy, by simp [hcident]⟩
    have := hfits.length
    omega
  have hident : ∀ x, (a.stack.find? fun x => x.ident == c.ident) = some x → x ∈ a.stack ∧ x.ident = c.ident := fun x hx =>
    ⟨List.mem_of_find?_eq_some hx, by simpa using List.find?_some hx⟩
  refine ⟨⟨⟨fun x hx => ⟨c, hcmem, (hident x hx).2.symm⟩, fun x hx => ?_, pushSlot_length _ _⟩, fun x hx => ⟨c, hcmem, (hident x hx).2.symm, fun f hf hno => hfree f hf ?_⟩⟩,
    hfound⟩
  · rcases mem_pushSlot hx with rfl | hx
    · exact hfits.served _ (by rw [hcur]; rfl)
    · exact hfits.stacked x (List.mem_of_mem_filter hx)
  · obtain ⟨hservice, hrest⟩ := Arbiter.not_holds_iff.mp hno
    obtain ⟨z, hz⟩ := Option.isSome_iff_exists.mp hfound
    have hne : c.ident ≠ f.ident := fun h => hservice z hz ((hident z hz).2.trans h)
    refine Arbiter.not_holds_iff.mpr ⟨fun x hx => ?_, fun x hx hxf => ?_⟩
    · rw [hcur] at hx
      cases hx
      exact hrest _ (mem_pushSlot_of_lt hlen (.inl rfl))
    · refine hrest x (mem_pushSlot_of_lt hlen (.inr (List.mem_filter.mpr ⟨hx, ?_⟩))) hxf
      simpa [hxf] using Ne.symm hne

/-- The free challenger goes in service over the stack; what is discarded from the bottom is no more urgent (R108). -/
theorem Arbiter.challenge_free {cur : Slot} {c : Candidate} (hnodup : (cands.map Candidate.ident).Nodup) (hfits : a.Fits cands)
    (hcur : a.inService = some cur) (hc : a.challenger cands = some (c, false)) (dwell : Nat) :
    ({ inService := some ⟨c.ident, dwell⟩, stack := pushSlot cur a.stack, mark := some c.ident } : Arbiter).Chosen cands := by
  obtain ⟨hstacked, hfree, -, hmem⟩ := Arbiter.challenger_spec hc
  refine ⟨⟨fun x hx => ?_, fun x hx => ?_, pushSlot_length _ _⟩, fun x hx => ?_⟩
  · cases hx; exact ⟨c, hmem rfl, rfl⟩
  · rcases mem_pushSlot hx with rfl | hx
    · exact hfits.served _ (by rw [hcur]; rfl)
    · exact hfits.stacked x hx
  · cases hx
    refine ⟨c, hmem rfl, rfl, fun f hf hno => ?_⟩
    obtain ⟨-, hrest⟩ := Arbiter.not_holds_iff.mp hno
    by_cases hheld : a.holds f.ident = true
    · rcases Arbiter.holds_iff.mp hheld with ⟨x, hx, hxf⟩ | ⟨x, hx, hxf⟩
      · rw [hcur] at hx
        cases hx
        exact absurd hxf (hrest _ (List.mem_of_mem_take (i := 4) (by simp [pushSlot])))
      · exact hstacked f (Arbiter.mem_stacked.mpr ⟨x, hx, by rw [hxf]; exact candidateOf_ident hnodup hf⟩)
    · exact hfree f hf (Bool.eq_false_iff.mpr hheld)

/-- Challenge leaves a notice in service, if there is one, the most urgent but for those held (R107, R108). -/
theorem Arbiter.challenge_chosen (hnodup : (cands.map Candidate.ident).Nodup) (hfits : a.Fits cands) (dwell : Nat) :
    (a.challenge cands dwell).Chosen cands ∧ ((a.challenge cands dwell).inService = none → a.inService = none ∧ a.challenge cands dwell = a) := by
  fun_cases Arbiter.challenge
  case case1 cur c hcur hlt hc =>
    obtain ⟨hchosen, hfound⟩ := Arbiter.challenge_fromStack hfits hcur hc
    refine ⟨hchosen, fun hnone => ?_⟩
    have hnone : (a.stack.find? fun x => x.ident == c.ident) = none := hnone
    rw [hnone] at hfound
    cases hfound
  case case2 cur c fromStack hc hcur hlt hnot =>
    rw [Bool.eq_false_iff.mpr hnot] at hc
    exact ⟨Arbiter.challenge_free hnodup hfits hcur hc dwell, nofun⟩
  case case3 cur c fromStack hc hcur hnot =>
    refine ⟨⟨hfits, fun x hx => ?_⟩, fun hnone => ⟨hnone, rfl⟩⟩
    obtain ⟨d, hd, hdident⟩ := hfits.served x hx
    rw [hcur] at hx
    cases hx
    obtain ⟨-, hfree, -, -⟩ := Arbiter.challenger_spec hc
    rw [← hdident, candidateOf_ident hnodup hd] at hnot
    exact ⟨d, hd, hdident, fun f hf hno => (not_lt.mp hnot).trans (hfree f hf hno)⟩
  case case4 hno =>
    refine ⟨⟨hfits, fun x hx => ?_⟩, fun hnone => ⟨hnone, rfl⟩⟩
    obtain ⟨d, hd, hdident⟩ := hfits.served x hx
    have hnone : a.challenger cands = none := by
      cases hc : a.challenger cands with
      | none => rfl
      | some p => exact absurd hc (hno x p.1 p.2 hx)
    exact ⟨d, hd, hdident, fun f hf hfree => by
      rw [Arbiter.bestFree_none (Arbiter.challenger_none hnone) hf] at hfree
      cases hfree⟩

end

section
variable {cands : List Candidate} {a : Arbiter}

/-- With nothing in service and an empty stack, what is not free does not exist. -/
theorem Arbiter.candidates_eq_nil (hnone : a.inService = none) (hstack : a.stack = []) (hfree : a.bestFree cands = none) : cands = [] := by
  refine List.eq_nil_iff_forall_not_mem.mpr fun c hc => ?_
  rcases Arbiter.holds_iff.mp (Arbiter.bestFree_none hfree hc) with ⟨x, hx, -⟩ | ⟨x, hx, -⟩
  · rw [hnone] at hx; cases hx
  · rw [hstack] at hx; exact List.not_mem_nil hx

/-- Choose takes the best free candidate, when it is the more urgent (R109). -/
theorem Arbiter.choose_free {c : Candidate} (hfits : a.Fits cands) (hnone : a.inService = none) (hc : a.bestFree cands = some c) (dwell : Nat) :
    ({ a with inService := some ⟨c.ident, dwell⟩, mark := some c.ident } : Arbiter).Chosen cands := by
  obtain ⟨hmem, -, hleast⟩ := Arbiter.bestFree_spec hc
  refine ⟨⟨fun x hx => ?_, hfits.stacked, hfits.length⟩, fun x hx => ?_⟩
  · cases hx; exact ⟨c, hmem, rfl⟩
  · cases hx
    refine ⟨c, hmem, rfl, fun f hf hno => hleast f hf ?_⟩
    exact Arbiter.not_holds_iff.mpr ⟨fun x hx => (by rw [hnone] at hx; cases hx), (Arbiter.not_holds_iff.mp hno).2⟩

/-- Choose resumes the top of the stack, when no free candidate is more urgent (R109). -/
theorem Arbiter.choose_top {top : Slot} {rest : List Slot} (hfits : a.Fits cands) (hnone : a.inService = none) (hstack : a.stack = top :: rest)
    (hleast : ∀ c ∈ cands, c.ident = top.ident → ∀ f ∈ cands, a.holds f.ident = false → c.level ≤ f.level) :
    ({ a with inService := some top, stack := rest } : Arbiter).Chosen cands := by
  have hmem : ∀ x ∈ top :: rest, ∃ c ∈ cands, c.ident = x.ident := hstack ▸ hfits.stacked
  have hlen : (top :: rest).length ≤ 4 := hstack ▸ hfits.length
  refine ⟨⟨fun x hx => ?_, fun x hx => hmem x (List.mem_cons_of_mem _ hx), Nat.le_of_succ_le hlen⟩, fun x hx => ?_⟩
  · cases hx; exact hmem _ List.mem_cons_self
  · cases hx
    obtain ⟨c, hc, hident⟩ := hmem _ List.mem_cons_self
    refine ⟨c, hc, hident, fun f hf hno => hleast c hc hident f hf ?_⟩
    obtain ⟨htop, hrest⟩ := Arbiter.not_holds_iff.mp hno
    refine Arbiter.not_holds_iff.mpr ⟨fun x hx => (by rw [hnone] at hx; cases hx), fun x hx => ?_⟩
    rw [hstack] at hx
    rcases List.mem_cons.mp hx with rfl | hx
    · exact htop x rfl
    · exact hrest x hx

/-- After Choose something is in service exactly when there is a candidate (R109). -/
theorem Arbiter.choose_chosen (hnodup : (cands.map Candidate.ident).Nodup) (h : a.Chosen cands) (dwell : Nat) :
    (a.choose cands dwell).Chosen cands ∧ ((a.choose cands dwell).inService = none → cands = []) := by
  fun_cases Arbiter.choose
  case case1 x hx =>
    refine ⟨h, fun hnone => ?_⟩
    rw [hx] at hnone
    cases hnone
  case case2 hnone hfree hstack => exact ⟨h, fun _ => Arbiter.candidates_eq_nil hnone hstack hfree⟩
  case case3 hnone c hc hstack => exact ⟨Arbiter.choose_free h.fits hnone hc dwell, nofun⟩
  case case4 hnone top rest hfree hstack =>
    refine ⟨Arbiter.choose_top h.fits hnone hstack fun _ _ _ f hf hno => ?_, nofun⟩
    rw [Arbiter.bestFree_none hfree hf] at hno
    cases hno
  case case5 hnone top rest c hc hstack hlt => exact ⟨Arbiter.choose_free h.fits hnone hc dwell, nofun⟩
  case case6 hnone top rest c hc hstack hnot =>
    refine ⟨Arbiter.choose_top h.fits hnone hstack fun d hd hident f hf hno => ?_, nofun⟩
    obtain ⟨-, -, hleast⟩ := Arbiter.bestFree_spec hc
    rw [← hident, candidateOf_ident hnodup hd] at hnot
    exact (not_lt.mp hnot).trans (hleast f hf hno)

end

/-- Settles O39: Drop leaves candidates alone, and Challenge and Choose each leave in service a notice that no free candidate outranks. -/
theorem noFreeCandidateIsMoreUrgent : Obligations.NoFreeCandidateIsMoreUrgent := by
  intro cands dwell a hnodup hlen _
  obtain ⟨hchallenged, -⟩ := Arbiter.challenge_chosen hnodup (Arbiter.vacate_fits (Arbiter.drop_fits (cands := cands) hlen)) dwell
  obtain ⟨⟨hfits, hserves⟩, hnone⟩ := Arbiter.choose_chosen hnodup hchallenged dwell
  refine ⟨hfits.length, hfits.stacked, ⟨hnone, fun hempty => ?_⟩, hserves⟩
  refine Option.eq_none_iff_forall_not_mem.mpr fun x hx => ?_
  obtain ⟨c, hc, -⟩ := hfits.served x hx
  rw [hempty] at hc
  exact List.not_mem_nil hc


/-! ### The table of section 8.2 -/

theorem suppress_eq (on : Bool) (bits : List Bool) : suppress on bits = bits.map fun b => b && !on := by
  cases on <;> simp [suppress]

theorem parityBit_concat (bits : List Bool) (b : Bool) : parityBit (bits ++ [b]) = (parityBit bits != b) := by
  simp [parityBit, List.foldl_append]

theorem parityBit_eq (bits : List Bool) : parityBit bits = decide ((bits.countP id) % 2 = 1) := by
  induction bits using List.reverseRecOn with
  | nil => rfl
  | append_singleton bits b ih =>
    rw [parityBit_concat, ih, List.countP_append]
    cases b with
    | false => simp
    | true =>
      rcases Nat.mod_two_eq_zero_or_one (bits.countP id) with h | h
      · simp [h, Nat.add_mod]
      · simp [h, Nat.add_mod]

/-- A run of bits with its parity second holds an even number of O (R123). -/
theorem withParity_even (bits : List Bool) : ((withParity bits).countP id) % 2 = 0 := by
  rw [withParity, List.countP_append, parityBit_eq]
  by_cases h : bits.countP id % 2 = 1 <;> simp [h] <;> omega

/-- Seconds that hold the symbols of a run of bits with its parity hold an even number of O (R123). -/
theorem even_of_seconds {l : List Symbol} {ks : List Nat} {bits : List Bool}
    (h : ks.map (fun k => l[k]?) = (withParity bits).map fun b => some (bitSymbol b)) : (ks.countP fun k => l[k]? == some .o) % 2 = 0 := by
  have hcount : (ks.countP fun k => l[k]? == some .o) = (withParity bits).countP id := by
    calc (ks.countP fun k => l[k]? == some .o)
        = (ks.map fun k => l[k]?).countP fun x => x == some .o := by rw [List.countP_map]; rfl
      _ = ((withParity bits).map fun b => some (bitSymbol b)).countP fun x => x == some .o := by rw [h]
      _ = (withParity bits).countP id := by
        rw [List.countP_map]
        exact List.countP_congr fun b _ => by cases b <;> simp [bitSymbol]
  rw [hcount]
  exact withParity_even bits

theorem fieldBits_one (v : Nat) : fieldBits 1 v = [v.testBit 0] := rfl

theorem fieldBits_two (v : Nat) : fieldBits 2 v = [v.testBit 0, v.testBit 1] := rfl

theorem fieldBits_three (v : Nat) : fieldBits 3 v = [v.testBit 0, v.testBit 1, v.testBit 2] := rfl

theorem fieldBits_four (v : Nat) : fieldBits 4 v = [v.testBit 0, v.testBit 1, v.testBit 2, v.testBit 3] := rfl

/-- The symbol list with a suppressed segment's bits written out (R128). -/
theorem frameSymbols_eq (code countdown : Nat) (doubt : Bool) (c : Civil) (summer : Bool) (leap : Option Kind) (zone identity : Nat)
    (mask : Mask) : frameSymbols code countdown doubt c summer leap zone identity mask =
      [.f] ++ (withParity ((fieldBits 3 code ++ fieldBits 4 countdown ++ [doubt]).map fun b => b && !mask.notice)).map bitSymbol ++
      (withParity (bcdBits 4 3 c.minute)).map bitSymbol ++ [summer, leap.isSome].map bitSymbol ++ [.m] ++
      (bcdBits 4 2 c.hour ++ [parityBit ([summer, leap.isSome] ++ bcdBits 4 2 c.hour)]).map bitSymbol ++
      (withParity ((bcdBits 4 2 c.day ++ fieldBits 3 c.weekday).map fun b => b && !mask.date)).map bitSymbol ++
      (fieldBits 2 zone).map bitSymbol ++ [.m] ++
      (withParity ((bcdBits 4 1 c.month ++ bcdBits 4 4 (c.year % 100)).map fun b => b && !mask.date)).map bitSymbol ++
      ((fieldBits 4 identity).map fun b => b && !mask.identity).map bitSymbol ++ closing leap := by
  simp only [frameSymbols, suppress_eq]

theorem bitSymbol_zo (b : Bool) : some (bitSymbol b) = some Symbol.z ∨ some (bitSymbol b) = some .o := by
  cases b <;> simp [bitSymbol]

/-- Settles O40: the symbol list written out second by second; each run with its parity second holds an even number of O. -/
theorem framesKeepTheTable : Obligations.FramesKeepTheTable := by
  intro code countdown doubt c summer leap zone identity mask hleap
  obtain ⟨l, hl⟩ : ∃ l, frameSymbols code countdown doubt c summer leap zone identity mask = l := ⟨_, rfl⟩
  rw [hl]
  have hunits : c.year % 100 % 10 = c.year % 10 := by omega
  have htens : c.year % 100 / 10 % 10 = c.year / 10 % 10 := by omega
  simp only [frameSymbols_eq, bcdBits, hunits, htens, fieldBits_one, fieldBits_two, fieldBits_three, fieldBits_four, withParity,
    List.map_cons, List.map_nil, List.cons_append, List.nil_append] at hl
  subst l
  intro l even keyed number
  have hplain : ∀ b : Bool, (b && !false) = b := fun b => by simp
  refine ⟨?length, rfl, rfl, rfl, ?second59, ?second60, ?code, ?countdown, rfl, ?minuteUnits, ?minuteTens, rfl, rfl, ?hourUnits, ?hourTens,
    ?dayUnits, ?dayTens, ?weekday, ?zone, ?monthUnits, ?monthTens, ?yearUnits, ?yearTens, ?identity, ?parity,
    even_of_seconds (bits := (fieldBits 3 code ++ fieldBits 4 countdown ++ [doubt]).map fun b => b && !mask.notice) rfl,
    even_of_seconds (bits := bcdBits 4 3 c.minute) rfl,
    even_of_seconds (bits := [summer, leap.isSome] ++ bcdBits 4 2 c.hour) rfl,
    even_of_seconds (bits := (bcdBits 4 2 c.day ++ fieldBits 3 c.weekday).map fun b => b && !mask.date) rfl,
    even_of_seconds (bits := (bcdBits 4 1 c.month ++ bcdBits 4 4 c.year).map fun b => b && !mask.date) rfl⟩
  case length | second59 | second60 => rcases hleap with rfl | rfl | rfl <;> simp [l, closing]
  case minuteUnits | minuteTens | hourUnits | hourTens | zone => intro i hi; rw [hplain]; interval_cases i <;> rfl
  case parity =>
    intro k hk
    have hseconds : k = 9 ∨ k = 17 ∨ k = 27 ∨ k = 37 ∨ k = 54 := by simpa using hk
    rcases hseconds with rfl | rfl | rfl | rfl | rfl <;> exact bitSymbol_zo _
  all_goals intro i hi; interval_cases i <;> rfl

end Sys2Proof.Machine
end

section
/-! The calendar and the profiles after a boundary pass or a procedure are those of the calendar and the profiles before it. -/

namespace Sys2Proof.Machine

/-! ### States with the same calendar and profiles -/

/-- The two states have the same calendar and the same profiles. -/
structure State.SameBook (s t : State) : Prop where
  cal : t.cal = s.cal
  profiles : t.profiles = s.profiles

/-- The operation makes the same of the calendar and the profiles wherever they are the same. -/
def KeepsSameBook (f : State → State) : Prop := ∀ s t : State, s.SameBook t → (f s).SameBook (f t)

theorem State.SameBook.refl (s : State) : s.SameBook s := ⟨rfl, rfl⟩

theorem State.SameBook.symm {s t : State} (h : s.SameBook t) : t.SameBook s := ⟨h.cal.symm, h.profiles.symm⟩

theorem State.SameBook.trans {s t u : State} (h : s.SameBook t) (k : t.SameBook u) : s.SameBook u :=
  ⟨k.cal.trans h.cal, k.profiles.trans h.profiles⟩

theorem State.SameBook.findEntry {s t : State} (h : s.SameBook t) (i : Nat) : t.findEntry i = s.findEntry i := by
  unfold State.findEntry; rw [h.cal]

namespace KeepsSameBook

theorem id : KeepsSameBook fun s => s := fun _ _ h => h

theorem comp {f g : State → State} (hg : KeepsSameBook g) (hf : KeepsSameBook f) : KeepsSameBook fun s => g (f s) :=
  fun s t h => hg _ _ (hf s t h)

theorem ite {p : Prop} [Decidable p] {f g : State → State} (hf : KeepsSameBook f) (hg : KeepsSameBook g) :
    KeepsSameBook fun s => if p then f s else g s := by
  by_cases hp : p
  · simpa only [if_pos hp] using hf
  · simpa only [if_neg hp] using hg

/-- An operation that leaves the profiles makes the same of them where it makes the same of the calendar. -/
theorem of_cal {f : State → State} (hcal : ∀ s t : State, t.cal = s.cal → (f t).cal = (f s).cal) (hprofiles : ∀ s, (f s).profiles = s.profiles) :
    KeepsSameBook f := fun s t h => ⟨hcal s t h.cal, by rw [hprofiles, hprofiles, h.profiles]⟩

theorem foldl {α : Type} {f : State → α → State} (hf : ∀ a, KeepsSameBook fun s => f s a) (l : List α) : KeepsSameBook fun s => l.foldl f s := by
  induction l with
  | nil => exact id
  | cons a l ih => exact fun s t h => ih _ _ (hf a s t h)

theorem onEntry {move : Entry → State → State} (hmove : ∀ e, KeepsSameBook (move e)) (i : Nat) : KeepsSameBook fun s => s.onEntry i move := by
  intro s t h
  unfold State.onEntry
  dsimp only
  rw [h.findEntry i]
  cases s.findEntry i with
  | none => exact h
  | some e => exact hmove e s t h

theorem raise (c : Cause) : KeepsSameBook (State.raise c) := fun _ _ h => ⟨h.cal, h.profiles⟩

theorem modifyEntry (i : Nat) (f : Entry → Entry) : KeepsSameBook (State.modifyEntry i f) :=
  of_cal (fun s t h => by rw [State.modifyEntry_cal, State.modifyEntry_cal, h]) fun _ => rfl

theorem leaveRing (i : Nat) : KeepsSameBook (State.leaveRing i) :=
  of_cal (fun s t h => by rw [leaveRing_cal, leaveRing_cal, h]) fun s => by rw [leaveRing_frame]

theorem joinRing (i : Nat) : KeepsSameBook (State.joinRing i) :=
  of_cal (fun s t h => by rw [joinRing_cal, joinRing_cal, h]) fun s => by rw [joinRing_frame]

theorem removeEntry (i : Nat) : KeepsSameBook (State.removeEntry i) :=
  of_cal (fun s t h => by rw [removeEntry_cal, removeEntry_cal, h]) fun s => by rw [removeEntry_frame]

theorem release (i : Nat) : KeepsSameBook (State.release i) :=
  of_cal (fun s t h => by rw [release_cal, release_cal, h]) fun s => by rw [release_frame]

theorem finishEntry (e : Entry) (o : EntryOutcome) : KeepsSameBook (State.finishEntry e o) :=
  ite ((removeEntry e.ident).comp ((modifyEntry e.ident _).comp (leaveRing e.ident))) ((modifyEntry e.ident _).comp (leaveRing e.ident))

theorem applyPayload (p : Payload) : KeepsSameBook (State.applyPayload p) := by
  intro s t h
  cases p with
  | offsetChange i o f =>
    refine ⟨h.cal, ?_⟩
    change t.profiles.set i _ = s.profiles.set i _
    rw [h.profiles]
  | leapInsert => exact h
  | leapDelete => exact h
  | interruption c d => exact h
  | advisory c n => exact h

theorem removeWithdrawn : KeepsSameBook State.removeWithdrawn := by
  intro s t h
  unfold State.removeWithdrawn
  rw [h.cal]
  exact foldl (fun e : Entry => removeEntry e.ident) _ s t h

/-- A fold over the idents of the entries, each taken once. -/
theorem foldIdents {f : State → Nat → State} (hf : ∀ i, KeepsSameBook fun s => f s i) :
    KeepsSameBook fun s => (s.cal.entries.map Entry.ident).foldl f s := by
  intro s t h
  dsimp only
  rw [h.cal]
  exact foldl hf _ s t h

/-! ### The boundary pass -/

theorem openEntry (now : Nat) (e : Entry) : KeepsSameBook (State.openEntry now e) :=
  ite ((joinRing e.ident).comp (modifyEntry e.ident _)) id

theorem commitEntry (now : Nat) (e : Entry) : KeepsSameBook (State.commitEntry now e) := ite (modifyEntry e.ident _) id

theorem effectEntry (now : Nat) (e : Entry) : KeepsSameBook (State.effectEntry now e) := by
  refine ite ?_ id
  have hfinish := fun o => finishEntry e o
  cases e.kind with
  | offsetChange => exact (raise _).comp ((hfinish _).comp (applyPayload _))
  | advisory => exact (raise _).comp (hfinish _)
  | leapInsert => exact ite ((raise _).comp (hfinish _)) ((raise _).comp (hfinish _))
  | leapDelete => exact ite ((raise _).comp (hfinish _)) ((raise _).comp (hfinish _))
  | interruption => exact (raise _).comp ((modifyEntry e.ident _).comp (leaveRing e.ident))

theorem endOutage (now : Nat) (e : Entry) : KeepsSameBook (State.endOutage now e) :=
  ite ((raise _).comp ((release e.ident).comp (finishEntry e _))) id

theorem passEntry (now i : Nat) : KeepsSameBook (State.passEntry now i) :=
  (onEntry (endOutage now) i).comp ((onEntry (effectEntry now) i).comp ((onEntry (commitEntry now) i).comp (onEntry (openEntry now) i)))

theorem boundaryPass (now : Nat) : KeepsSameBook (State.boundaryPass now) := (foldIdents fun i => passEntry now i).comp removeWithdrawn

end KeepsSameBook

/-! ### The procedure -/

/-- What the procedure of SET TIME or of an adoption does with an entry at the station second `now` (R73 to R75). -/
def State.placeEntry (now : UtcSecond) (e : Entry) (s : State) : State :=
  match e.state with
  | .done | .withdrawn => s
  | .inEffect => s.replaceInEffect now e
  | .scheduled | .announcing | .committed => if e.instant ≤ now.minute then s.takeLate now.minute e else s.recomputeEntry now e

theorem procedureEntry_placeEntry {s : State} {now : UtcSecond} (h : s.tb.time = some now) (i : Nat) :
    s.procedureEntry none i = s.onEntry i (State.placeEntry now) := by
  unfold State.procedureEntry State.onEntry State.placeEntry
  rw [h]
  cases hf : s.findEntry i with
  | none => rfl
  | some e => cases he : e.state <;> simp [he]

theorem procedureEntry_none_tb (i : Nat) (s : State) : (s.procedureEntry none i).tb = s.tb := (procedureEntry_calendarOnly i s).tb

theorem foldl_procedureEntry {now : UtcSecond} (l : List Nat) {s : State} (h : s.tb.time = some now) :
    l.foldl (fun t i => t.procedureEntry none i) s = l.foldl (fun t i => t.onEntry i (State.placeEntry now)) s := by
  induction l generalizing s with
  | nil => rfl
  | cons i l ih => rw [List.foldl_cons, List.foldl_cons, ih (by rw [procedureEntry_none_tb, h]), procedureEntry_placeEntry h]

/-- The procedure at the station second `now`, up to the arbiters. -/
def State.placeEntries (now : UtcSecond) (s : State) : State :=
  (s.removeWithdrawn.cal.entries.map Entry.ident).foldl (fun t i => t.onEntry i (State.placeEntry now)) s.removeWithdrawn

theorem discontinuity_eq {s : State} {now : UtcSecond} (h : s.tb.time = some now) : s.discontinuity none =
    { s.placeEntries now with chans := (s.placeEntries now).chans.map Channel.emptyArbiter } := by
  unfold State.discontinuity State.placeEntries
  dsimp only
  rw [foldl_procedureEntry _ (by rw [removeWithdrawn_tb, h])]

namespace KeepsSameBook

theorem recomputeEntry (now : UtcSecond) (e : Entry) : KeepsSameBook (State.recomputeEntry now e) :=
  ite ((joinRing e.ident).comp (modifyEntry e.ident _)) ((leaveRing e.ident).comp (modifyEntry e.ident _))

theorem takeLate (now : Nat) (e : Entry) : KeepsSameBook (State.takeLate now e) := by
  have hfinish := finishEntry e .overtaken
  refine (raise .changeOvertaken).comp (comp (g := fun t : State => match e.kind with
    | .interruption =>
      if e.outageEnd ≤ now then t.finishEntry e .overtaken
      else (t.leaveRing e.ident).modifyEntry e.ident fun e => { e with state := .inEffect, late := true }
    | .offsetChange | .leapInsert | .leapDelete | .advisory => (t.applyPayload e.payload).finishEntry e .overtaken) ?_ (modifyEntry e.ident _))
  cases e.kind with
  | interruption => exact ite hfinish ((modifyEntry e.ident _).comp (leaveRing e.ident))
  | offsetChange => exact hfinish.comp (applyPayload _)
  | leapInsert => exact hfinish.comp (applyPayload _)
  | leapDelete => exact hfinish.comp (applyPayload _)
  | advisory => exact hfinish.comp (applyPayload _)

theorem replaceInEffect (now : UtcSecond) (e : Entry) : KeepsSameBook (State.replaceInEffect now e) :=
  ite ((raise _).comp ((release e.ident).comp (finishEntry e _)))
    (ite id ((release e.ident).comp ((recomputeEntry now e).comp (modifyEntry e.ident _))))

theorem placeEntry (now : UtcSecond) (e : Entry) : KeepsSameBook (State.placeEntry now e) := by
  have hahead : KeepsSameBook fun s => if e.instant ≤ now.minute then s.takeLate now.minute e else s.recomputeEntry now e :=
    ite (takeLate _ _) (recomputeEntry _ _)
  have hin := replaceInEffect now e
  unfold State.placeEntry
  cases e.state with
  | done => exact id
  | withdrawn => exact id
  | inEffect => exact hin
  | scheduled => exact hahead
  | announcing => exact hahead
  | committed => exact hahead

theorem placeEntries (now : UtcSecond) : KeepsSameBook (State.placeEntries now) :=
  (foldIdents fun i => onEntry (placeEntry now) i).comp removeWithdrawn

end KeepsSameBook

/-- The procedure makes the same of the same calendar and profiles, at the same station second. -/
theorem discontinuity_sameBook {s t : State} {now : UtcSecond} (h : s.SameBook t) (hs : s.tb.time = some now) (ht : t.tb.time = some now) :
    (s.discontinuity none).SameBook (t.discontinuity none) := by
  rw [discontinuity_eq hs, discontinuity_eq ht]
  obtain ⟨hcal, hprofiles⟩ := KeepsSameBook.placeEntries now s t h
  exact ⟨hcal, hprofiles⟩

end Sys2Proof.Machine
end

section
/-! The start of a station second: the grade, the selection followed, and the length (R1, R5, R7, R9, R13). -/

namespace Sys2Proof.Machine

/-! ### The length of a second -/

/-- The FIN periods a total is resolved to leave less than half a period above, a half going to the larger (R1). -/
theorem resolvePeriods_bounds (total : Int) {period : Int} (h : 0 < period) :
    -period ≤ 2 * (total - resolvePeriods total period * period) ∧ 2 * (total - resolvePeriods total period * period) < period := by
  refine ⟨(resolvePeriods_nearest total h).1, ?_⟩
  have hlt := Int.lt_ediv_add_one_mul_self (2 * total + period) (b := 2 * period) (by omega)
  unfold resolvePeriods
  rw [Int.fdiv_eq_ediv_of_nonneg _ (by omega)]
  have hexpand : ((2 * total + period) / (2 * period) + 1) * (2 * period) =
      2 * ((2 * total + period) / (2 * period) * period) + 2 * period := by ring
  omega

/-- A correction of at most 50 microseconds with a remainder of at most 100 ns, resolved to FIN periods (R1). -/
theorem correct_resolved {ns : Int} {s : State} (hns : -50000 ≤ ns ∧ ns ≤ 50000) (hcarried : -100 ≤ s.tb.carried ∧ s.tb.carried ≤ 100) :
    ∃ n : Int, ((s.correct ns).tb.length : Int) = (if s.tb.fselHigh then 10000000 else 5000000) + n ∧
      (s.correct ns).tb.remainder = ns + s.tb.carried - n * (if s.tb.fselHigh then 100 else 200) ∧
      -(if s.tb.fselHigh then 100 else 200) ≤ 2 * (s.correct ns).tb.remainder ∧
      2 * (s.correct ns).tb.remainder < (if s.tb.fselHigh then 100 else 200) := by
  rw [State.correct_tb]
  unfold State.nominalLength State.periodNs
  cases s.tb.fselHigh with
  | true =>
    have hbounds := resolvePeriods_bounds (ns + s.tb.carried) (period := 100) (by omega)
    refine ⟨resolvePeriods (ns + s.tb.carried) 100, ?_, rfl, hbounds⟩
    simp only [if_true]
    push_cast
    omega
  | false =>
    have hbounds := resolvePeriods_bounds (ns + s.tb.carried) (period := 200) (by omega)
    refine ⟨resolvePeriods (ns + s.tb.carried) 200, ?_, rfl, hbounds⟩
    simp only [Bool.false_eq_true, if_false]
    push_cast
    omega

/-- The estimate is the mean of corrections of at most 50 microseconds (R9). -/
theorem estimate_bounds {window : List Int} (h : ∀ c ∈ window, -50 ≤ c ∧ c ≤ 50) : -50000 ≤ estimate window ∧ estimate window ≤ 50000 := by
  unfold estimate
  split
  · omega
  · next hne =>
    have hpos : 0 < (window.length : Int) := by
      have := List.length_pos_iff.mpr hne
      omega
    have hupper : window.sum ≤ window.length * 50 := by
      simpa using List.sum_le_card_nsmul window 50 fun c hc => (h c hc).2
    have hlower : (window.length : Int) * (-50) ≤ window.sum := by
      simpa using List.card_nsmul_le_sum window (-50) fun c hc => (h c hc).1
    constructor
    · have := Int.tdiv_le_tdiv hpos (show (window.length : Int) * (-50000) ≤ window.sum * 1000 by omega)
      rwa [Int.mul_tdiv_cancel_left _ (by omega)] at this
    · have := Int.tdiv_le_tdiv hpos (show window.sum * 1000 ≤ (window.length : Int) * 50000 by omega)
      rwa [Int.mul_tdiv_cancel_left _ (by omega)] at this

/-! ### The grade and the selection followed -/

/-- The grade derived (R13, R14). -/
theorem deriveGrade_tb (s : State) : s.deriveGrade.tb = { s.tb with
    grade := gradeOf s.tb.state s.tb.phaseError s.holdoverDuration
    gradeChanged := s.tb.gradeChanged || decide (s.tb.grade ≠ gradeOf s.tb.state s.tb.phaseError s.holdoverDuration) } := by
  by_cases h : s.tb.grade = gradeOf s.tb.state s.tb.phaseError s.holdoverDuration
  · rw [deriveGrade_same h]
    simp [← h]
  · rw [deriveGrade_new h]
    simp [h]

theorem deriveGrade_att (s : State) : s.deriveGrade.att = { s.att with
    flags := if s.tb.grade ≠ gradeOf s.tb.state s.tb.phaseError s.holdoverDuration then s.att.flags ||| 0x0080 else s.att.flags } := by
  by_cases h : s.tb.grade = gradeOf s.tb.state s.tb.phaseError s.holdoverDuration
  · rw [deriveGrade_same h, if_neg (not_not.mpr h)]
  · rw [deriveGrade_new h, if_pos h]
    rfl

section
variable {s : State}

/-- A timebase that fits its selection stays as it is (R5). -/
theorem followSelection_kept (h : s.mon.selection = none ↔ s.tb.state ≠ .locked) : s.followSelection = s := by
  unfold State.followSelection
  split
  · rfl
  · next hsel hst =>
    rw [hsel] at h
    exact absurd (h.mpr hst) (by simp)
  · next hsel hst => exact absurd hst (h.mp hsel)
  · rfl

/-- From LOCKED to HOLDOVER when no reference is selected (R5). -/
theorem followSelection_holdover (hsel : s.mon.selection = none) (hst : s.tb.state = .locked) : s.followSelection =
    ({ s with tb := { s.tb with state := .holdover, holdoverStart := some s.ret.runSeconds, phaseError := 0, measured := none } } :
      State).deriveGrade := by
  simp only [State.followSelection, hsel, hst]

/-- To LOCKED when one is (R5). -/
theorem followSelection_locked (hsel : s.mon.selection ≠ none) (hst : s.tb.state ≠ .locked) : s.followSelection =
    ({ s with tb := { s.tb with state := .locked, holdoverStart := none } } : State).deriveGrade := by
  unfold State.followSelection
  split
  · next h => exact absurd h hst
  · rfl
  · next h _ => exact absurd h hsel
  · next h _ => exact absurd h hsel

/-- What following the selection leaves of the timebase; what was measured is there in LOCKED alone. -/
structure Timebase.Followed (b c : Timebase) : Prop where
  kept : c = { b with
    state := c.state, holdoverStart := c.holdoverStart, phaseError := c.phaseError, measured := c.measured, grade := c.grade
    gradeChanged := c.gradeChanged }
  measured : c.state = .locked → c.measured = b.measured
  unmeasured : b.measured = none → c.measured = none

theorem Timebase.Followed.refl (b : Timebase) : b.Followed b := ⟨rfl, fun _ => rfl, id⟩

theorem followSelection_followed (s : State) : s.tb.Followed s.followSelection.tb := by
  by_cases hfits : s.mon.selection = none ↔ s.tb.state ≠ .locked
  · rw [followSelection_kept hfits]
    exact .refl _
  · by_cases hsel : s.mon.selection = none
    · have hst : s.tb.state = .locked := by
        by_contra hst
        exact hfits ⟨fun _ => hst, fun _ => hsel⟩
      rw [followSelection_holdover hsel hst, deriveGrade_tb]
      exact ⟨rfl, nofun, fun _ => rfl⟩
    · have hst : s.tb.state ≠ .locked := fun hst => hfits ⟨fun h => absurd h hsel, fun h => absurd hst h⟩
      rw [followSelection_locked hsel hst, deriveGrade_tb]
      exact ⟨rfl, fun _ => rfl, id⟩

theorem reselected_tb (s : State) : s.reselected.tb = s.tb := select_tb _ _ _

theorem evaluate_followed (s : State) : s.tb.Followed s.evaluate.tb := by
  have h := followSelection_followed s.reselected
  rw [reselected_tb] at h
  exact h

/-- A second's start hands on to the timebase the evaluation and the length (R1). -/
theorem handOn_tb (u : UtcSecond) (s : State) : (s.handOn u).tb = s.evaluate.setLength.tb := by
  unfold State.handOn
  dsimp only
  split
  · rw [minuteBoundary_tb]
  · split
    · rw [compositionInstant_tb]
    · rfl

/-- The length touches nothing of the timebase that the evaluation speaks of. -/
theorem setLength_kept (s : State) : s.setLength.tb = { s.tb with
    carried := s.tb.remainder, measured := none, window := s.setLength.tb.window, slewed := s.setLength.tb.slewed
    length := s.setLength.tb.length, remainder := s.setLength.tb.remainder } := by
  by_cases hst : s.tb.state ≠ .locked ∨ s.tb.measured = none
  · rw [State.setLength_of_estimate hst]
    rfl
  · obtain ⟨hst, hm⟩ := not_or.mp hst
    obtain ⟨e, he⟩ := Option.ne_none_iff_exists'.mp hm
    rw [State.setLength_of_measured (not_not.mp hst) he]
    rfl

end


/-! ### A station second begins -/

/-- The second after `u` has its label; what it hands on is still to come (R1, R2, R67). -/
def State.secondReached (s : State) (u : UtcSecond) : State :=
  ((s.elapse (s.tb.length - s.tb.elapsed)).askLeap u).placeLabel (s.secondAfter u)

theorem exec_stationSecond {s : State} (h : s.running = true) : exec .stationSecond s = .next (stationSecond s) :=
  congrArg Host.Outcome.next (whenRunning_running h 0 _)

section
variable {s : State} {u : UtcSecond}

theorem stationSecond_eq (htime : s.tb.time = some u) (hkept : (s.secondAfter u).minute < minutesKept) :
    stationSecond s = (s.secondReached u).handOn (s.secondAfter u) := by
  unfold stationSecond
  rw [htime]
  exact if_neg (not_le.mpr hkept)

theorem stationSecond_unset (htime : s.tb.time = some u) (hend : minutesKept ≤ (s.secondAfter u).minute) :
    stationSecond s = ((s.elapse (s.tb.length - s.tb.elapsed)).askLeap u).fallUnset := by
  unfold stationSecond
  rw [htime]
  exact if_pos hend

theorem secondReached_tb : (s.secondReached u).tb = { s.tb with time := some (s.secondAfter u), elapsed := 0 } := by
  rw [State.secondReached, State.placeLabel_tb, askLeap_tb, State.elapse_tb]

theorem secondReached_mon : (s.secondReached u).mon = s.mon := by
  rw [State.secondReached, placeLabel_mon, askLeap_mon, State.elapse_mon]

end

/-- Settles O14: the length that the second evaluation's timebase gives the second. -/
theorem stationSecondLength : Obligations.StationSecondLength := by
  intro u s hr htime hkept hsound period nominal resolved
  obtain ⟨-, -, -, hwindow, -, -, hremainder⟩ := hsound
  refine ⟨_, (exec_stationSecond hr).trans (congrArg Host.Outcome.next (stationSecond_eq htime hkept)), ?_⟩
  have hfollowed := evaluate_followed (s.secondReached u)
  rw [secondReached_tb] at hfollowed
  have htb := handOn_tb (s.secondAfter u) (s.secondReached u)
  generalize (s.secondReached u).handOn (s.secondAfter u) = t at htb
  generalize (s.secondReached u).evaluate = r at htb hfollowed
  obtain ⟨hfields, hmeasured, hunmeasured⟩ := hfollowed
  have hstate : t.tb.state = r.tb.state := by rw [htb, setLength_kept]
  have hcarried : r.tb.remainder = s.tb.remainder := by rw [hfields]
  have hold : r.tb.window = s.tb.window := by rw [hfields]
  have hfsel : r.tb.fselHigh = s.tb.fselHigh := by rw [hfields]
  refine ⟨by rw [htb, setLength_kept]; exact hcarried, by rw [htb, setLength_kept], ?_, ?_⟩
  · intro hnone
    rw [hstate] at hnone
    have hlength : t.tb = (State.correct (estimate s.tb.window) { r with
        tb := { r.tb with carried := r.tb.remainder, measured := none, slewed := false } }).tb := by
      rw [htb, State.setLength_of_estimate (hnone.imp_right hunmeasured), hold]
    have hresolved := correct_resolved (estimate_bounds hwindow) (s := { r with
      tb := { r.tb with carried := r.tb.remainder, measured := none, slewed := false } }) (by rw [hcarried]; exact hremainder)
    rw [← hlength] at hresolved
    dsimp only at hresolved
    rw [hcarried, hfsel] at hresolved
    exact ⟨by rw [hlength]; rfl, by rw [hlength]; exact hold, hresolved⟩
  · intro e hlocked he
    rw [hstate] at hlocked
    have hlength : t.tb = (State.correct (slewOf e * 1000) { r with
        tb := { r.tb with
          carried := r.tb.remainder, measured := none, window := enterWindow s.tb.window (slewOf e), slewed := true } }).tb := by
      rw [htb, State.setLength_of_measured hlocked ((hmeasured hlocked).trans he), ← hold]
      rfl
    have hslew := slewOf_bounds e
    have hresolved := correct_resolved (ns := slewOf e * 1000) (by omega) (s := { r with
        tb := { r.tb with
          carried := r.tb.remainder, measured := none, window := enterWindow s.tb.window (slewOf e), slewed := true } })
      (by rw [hcarried]; exact hremainder)
    rw [← hlength] at hresolved
    dsimp only at hresolved
    rw [hcarried, hfsel] at hresolved
    exact ⟨by rw [hlength]; rfl, by rw [hlength]; rfl, hresolved⟩

end Sys2Proof.Machine
end

section
/-! The composition instant, channel by channel (R113, R129, R147). -/

namespace Sys2Proof.Machine

/-! ### What a channel's decision reads -/

/-- The two states are the same in what the decision of channel `n` reads. -/
structure State.AlikeFor (n : Fin 4) (s t : State) : Prop where
  cal : t.cal = s.cal
  profiles : t.profiles = s.profiles
  tb : t.tb = s.tb
  chan : t.chan n = s.chan n

namespace State.AlikeFor

variable {n : Fin 4} {s t : State}

theorem modifyChan (h : s.AlikeFor n t) (f : Channel → Channel) : (s.modifyChan n f).AlikeFor n (t.modifyChan n f) :=
  ⟨h.cal, h.profiles, h.tb, by rw [State.chan_modifyChan, State.chan_modifyChan, h.chan]⟩

theorem interruptionClaim (h : s.AlikeFor n t) (k : Fin 4) (m : Nat) : t.interruptionClaim k m = s.interruptionClaim k m := by
  unfold State.interruptionClaim; rw [h.cal]

theorem candidates (h : s.AlikeFor n t) (l : Nat) : t.candidates n l = s.candidates n l := by
  simp only [State.candidates, State.isCandidate, State.findEntry, h.cal, h.chan]
  rfl

theorem passArbiter (h : s.AlikeFor n t) (l : Nat) : t.passArbiter n l = s.passArbiter n l := by
  unfold State.passArbiter; rw [h.candidates, h.chan]

theorem noticeOf (h : s.AlikeFor n t) (a : Arbiter) (l : Nat) : t.noticeOf a l = s.noticeOf a l := by
  unfold State.noticeOf State.findEntry; rw [h.cal]

theorem profileAt (h : s.AlikeFor n t) (i : Fin 4) (l : Nat) : t.profileAt i l = s.profileAt i l := by
  unfold State.profileAt; rw [h.cal, h.profiles]

theorem frameLeap (h : s.AlikeFor n t) (m : Nat) : t.frameLeap m = s.frameLeap m := by
  unfold State.frameLeap; rw [h.cal]

theorem frameFor (h : s.AlikeFor n t) (m : Nat) (a : Arbiter) : t.frameFor n m a = s.frameFor n m a := by
  simp only [State.frameFor, h.chan, h.tb, h.noticeOf, h.profileAt, h.frameLeap]

end State.AlikeFor

/-! ### The decision -/

section
variable {n : Fin 4} {s t : State}

/-- The channel with its frame composed for the minute `m` (R104, R114, R129). -/
theorem compose_chan (m : Nat) (s : State) : (s.compose n m).chan n =
    let t := s.modifyChan n Channel.beginFrame
    if (t.chan n).cfg.mask.notice = true then { t.chan n with staged := some (t.frameFor n m (t.chan n).arbiter) }
    else { t.chan n with
      arbiter := (t.passArbiter n (labelledMinute (t.chan n).cfg.mode m)).carry
      staged := some (t.frameFor n m (t.passArbiter n (labelledMinute (t.chan n).cfg.mode m))) } := by
  unfold State.compose
  dsimp only
  split <;> exact (State.chan_setChan _ _ _ _).trans (if_pos rfl)

theorem decideChannel_kept {now : Nat} (h : (s.chan n).wouldKey ⟨now, 50, 0⟩ ≠ true) : s.decideChannel now n = s := if_neg h

theorem decideChannel_claim {now id : Nat} (h : (s.chan n).wouldKey ⟨now, 50, 0⟩ = true) (hc : s.interruptionClaim n (now + 1) = some id) :
    (s.decideChannel now n).chan n = { (s.chan n).reopened with claim := some id } := by
  have hclaim : (s.modifyChan n Channel.reopened).interruptionClaim n (now + 1) = some id := hc
  unfold State.decideChannel
  dsimp only
  rw [if_pos h, hclaim, State.chan_setChan, if_pos rfl, State.chan_modifyChan, if_pos rfl]

theorem decideChannel_silent {now : Nat} (h : (s.chan n).wouldKey ⟨now, 50, 0⟩ = true) (hc : s.interruptionClaim n (now + 1) = none)
    (hsilent : s.tb.grade = 6 ∨ (s.chan n).cfg.silence ≤ s.tb.grade ∨ minutesKept ≤ now + 1) :
    (s.decideChannel now n).chan n = { (s.chan n).reopened with quietDecided := true } := by
  have hclaim : (s.modifyChan n Channel.reopened).interruptionClaim n (now + 1) = none := hc
  have hchan : (s.modifyChan n Channel.reopened).chan n = (s.chan n).reopened := (State.chan_modifyChan _ _ _ _).trans (if_pos rfl)
  unfold State.decideChannel
  dsimp only
  rw [if_pos h, hclaim, hchan]
  exact (congrArg (fun t : State => t.chan n) (if_pos hsilent)).trans ((State.chan_setChan _ _ _ _).trans (if_pos rfl))

theorem decideChannel_composed {now : Nat} (h : (s.chan n).wouldKey ⟨now, 50, 0⟩ = true) (hc : s.interruptionClaim n (now + 1) = none)
    (hsounds : ¬(s.tb.grade = 6 ∨ (s.chan n).cfg.silence ≤ s.tb.grade ∨ minutesKept ≤ now + 1)) :
    s.decideChannel now n = (s.modifyChan n Channel.reopened).compose n (now + 1) := by
  have hclaim : (s.modifyChan n Channel.reopened).interruptionClaim n (now + 1) = none := hc
  have hchan : (s.modifyChan n Channel.reopened).chan n = (s.chan n).reopened := (State.chan_modifyChan _ _ _ _).trans (if_pos rfl)
  unfold State.decideChannel
  dsimp only
  rw [if_pos h, hclaim, hchan]
  exact if_neg hsounds

theorem decideChannel_other {m : Fin 4} (now : Nat) (hm : m ≠ n) (s : State) : (s.decideChannel now n).chan m = s.chan m := by
  unfold State.decideChannel State.compose
  dsimp only
  split
  · split
    · simp [hm]
    · split
      · simp [hm]
      · split <;> simp [hm]
  · rfl

namespace State.AlikeFor

theorem compose (h : s.AlikeFor n t) (m : Nat) : (t.compose n m).chan n = (s.compose n m).chan n := by
  have hbegun := h.modifyChan Channel.beginFrame
  rw [compose_chan, compose_chan]
  simp only [hbegun.chan, hbegun.frameFor, hbegun.passArbiter]

theorem decideChannel (h : s.AlikeFor n t) (now : Nat) : (t.decideChannel now n).chan n = (s.decideChannel now n).chan n := by
  by_cases hkeys : (s.chan n).wouldKey ⟨now, 50, 0⟩ = true
  · have hkeys' : (t.chan n).wouldKey ⟨now, 50, 0⟩ = true := by rw [h.chan]; exact hkeys
    cases hc : s.interruptionClaim n (now + 1) with
    | some id => rw [decideChannel_claim hkeys hc, decideChannel_claim hkeys' ((h.interruptionClaim _ _).trans hc), h.chan]
    | none =>
      have hc' := (h.interruptionClaim n (now + 1)).trans hc
      by_cases hsilent : s.tb.grade = 6 ∨ (s.chan n).cfg.silence ≤ s.tb.grade ∨ minutesKept ≤ now + 1
      · rw [decideChannel_silent hkeys hc hsilent, decideChannel_silent hkeys' hc' (by rw [h.chan, h.tb]; exact hsilent), h.chan]
      · rw [decideChannel_composed hkeys hc hsilent, decideChannel_composed hkeys' hc' (by rw [h.chan, h.tb]; exact hsilent)]
        exact (h.modifyChan Channel.reopened).compose (now + 1)
  · rw [decideChannel_kept hkeys, decideChannel_kept (by rw [h.chan]; exact hkeys), h.chan]

end State.AlikeFor

end

/-- At the composition instant each channel is decided from the state as it found it (R147). -/
theorem compositionInstant_chan (now : Nat) (n : Fin 4) (s : State) : (s.compositionInstant now).chan n = (s.decideChannel now n).chan n := by
  have halike : ∀ (k : Fin 4) (t : State), (t.cal = s.cal ∧ t.profiles = s.profiles ∧ t.tb = s.tb) →
      (s.setChan k (t.chan k)).AlikeFor k t := fun k t h =>
    ⟨h.1, h.2.1, h.2.2, ((State.chan_setChan _ _ _ _).trans (if_pos rfl)).symm⟩
  refine (eachChannel_chan (g := fun k c => ((s.setChan k c).decideChannel now k).chan k)
    (fun t => t.cal = s.cal ∧ t.profiles = s.profiles ∧ t.tb = s.tb) ?_ ⟨rfl, rfl, rfl⟩ n).trans ?_
  · intro k t ht
    refine ⟨?_, fun m => ?_⟩
    · rw [decideChannel_frame]; exact ht
    · split
      · next hm => rw [hm]; exact (halike k t ht).decideChannel now
      · next hm => exact decideChannel_other now hm t
  · exact ((halike n s ⟨rfl, rfl, rfl⟩).decideChannel now).symm


/-! ### The composition instant of a minute -/

/-- The channel as its frame's composition finds its arbiter record (R113). -/
def Channel.record (c : Channel) : Arbiter := if c.state = .onAir then c.arbiter else { inService := none, stack := [], mark := c.arbiter.mark }

theorem Channel.beginFrame_eq (c : Channel) : c.beginFrame = { c with arbiter := c.record } := by
  unfold Channel.record
  by_cases h : c.state = .onAir
  · rw [Channel.beginFrame_onAir h, if_pos h]
  · rw [Channel.beginFrame_other h, if_neg h]
    rfl

theorem Channel.record_mark (c : Channel) : c.record.mark = c.arbiter.mark := by unfold Channel.record; split <;> rfl

/-- The frame that composition stages and the arbiter record it leaves (R104, R113, R114, R129). -/
theorem decideChannel_staged {now : Nat} {n : Fin 4} {s : State} (h : (s.chan n).wouldKey ⟨now, 50, 0⟩ = true)
    (hc : s.interruptionClaim n (now + 1) = none) (hsounds : ¬(s.tb.grade = 6 ∨ (s.chan n).cfg.silence ≤ s.tb.grade ∨ minutesKept ≤ now + 1)) :
    (s.decideChannel now n).chan n = { (s.chan n).reopened with
      staged := some (s.frameFor n (now + 1)
        (if (s.chan n).cfg.mask.notice = true then (s.chan n).record
         else (s.chan n).record.chosen (s.candidates n (labelledMinute (s.chan n).cfg.mode (now + 1))) (s.chan n).cfg.dwell))
      arbiter := if (s.chan n).cfg.mask.notice = true then (s.chan n).record
        else ((s.chan n).record.chosen (s.candidates n (labelledMinute (s.chan n).cfg.mode (now + 1))) (s.chan n).cfg.dwell).carry } := by
  obtain ⟨t, ht⟩ : ∃ t, (s.modifyChan n Channel.reopened).modifyChan n Channel.beginFrame = t := ⟨_, rfl⟩
  have hchan : t.chan n = { (s.chan n).reopened with arbiter := (s.chan n).record } := by
    rw [← ht, State.chan_modifyChan, if_pos rfl, State.chan_modifyChan, if_pos rfl, Channel.beginFrame_eq]
    rfl
  have hcal : t.cal = s.cal := by rw [← ht]; rfl
  have hprofiles : t.profiles = s.profiles := by rw [← ht]; rfl
  have htb : t.tb = s.tb := by rw [← ht]; rfl
  have hcandidates : ∀ l, t.candidates n l = s.candidates n l := fun l => by
    simp only [State.candidates, State.isCandidate, State.findEntry, hcal, hchan, Channel.record_mark]
    rfl
  have hframe : ∀ a, t.frameFor n (now + 1) a = s.frameFor n (now + 1) a := fun a => by
    simp only [State.frameFor, State.noticeOf, State.findEntry, State.profileAt, State.frameLeap, hcal, hprofiles, htb, hchan]
    rfl
  have hpass : ∀ l, t.passArbiter n l = (s.chan n).record.chosen (s.candidates n l) (s.chan n).cfg.dwell := fun l => by
    rw [State.passArbiter, hcandidates, hchan]
    rfl
  rw [decideChannel_composed h hc hsounds, compose_chan, ht]
  dsimp only
  rw [hframe, hframe, hpass, hchan]
  change (if (s.chan n).cfg.mask.notice = true then _ else _) = _
  by_cases hmask : (s.chan n).cfg.mask.notice = true
  · rw [if_pos hmask, if_pos hmask, if_pos hmask]
  · rw [if_neg hmask, if_neg hmask, if_neg hmask]
    rfl


/-- The start handed on of a second labelled 50 is the composition instant (R129). -/
theorem handOn_composition {u : UtcSecond} (h : u.second = 50) (s : State) : s.handOn u = s.evaluate.setLength.compositionInstant u.minute := by
  unfold State.handOn
  dsimp only
  rw [if_neg (by omega), if_pos h]

theorem secondAfter_of_lt {u : UtcSecond} (h : u.second < 58) (s : State) : s.secondAfter u = ⟨u.minute, u.second + 1⟩ := by
  unfold State.secondAfter
  rw [if_neg fun h' => by omega, if_neg fun h' => by omega, if_neg (by omega)]

theorem askLeap_of_lt {u : UtcSecond} (h : u.second < 58) (s : State) : s.askLeap u = s := by
  have hnone : leapAsked u = none := by
    unfold leapAsked
    rw [if_neg (c := u.second = 59) (by omega), if_neg (c := u.second = 58) (by omega), ite_self]
  unfold State.askLeap
  rw [hnone]

theorem Channel.wouldKey_iff (c : Channel) (now : Moment) : c.wouldKey now = true ↔
    (c.state = .onAir ∧ c.holdPending = false) ∨ c.state = .cued ∨ c.state = .quiet ∨
      (c.state = .resuming ∧ ∃ r ∈ c.resumeStart, r.micros + 40000000 ≤ now.micros) := by
  unfold Channel.wouldKey Channel.due
  cases c.state with
  | resuming => cases c.resumeStart <;> simp
  | onAir => simp
  | off => simp
  | carrier => simp
  | cued => simp
  | quiet => simp
  | held r => simp
  | faulted => simp

/-- Settles O41: each channel's decision by its cases, from the state in which the station second began. -/
theorem compositionDecidesEachChannel : Obligations.CompositionDecidesEachChannel := by
  intro m s hr htime hm
  have hafter : s.secondAfter ⟨m, 49⟩ = ⟨m, 50⟩ := secondAfter_of_lt (Nat.lt_of_sub_eq_succ rfl) s
  have hsecond := stationSecond_eq htime (by rw [hafter]; exact hm)
  rw [hafter, handOn_composition rfl] at hsecond
  refine ⟨_, (exec_stationSecond hr).trans (congrArg Host.Outcome.next hsecond), fun n => ?_⟩
  obtain ⟨b, hb⟩ : ∃ b, (s.secondReached ⟨m, 49⟩).evaluate.setLength = b := ⟨_, rfl⟩
  have hask : (s.elapse (s.tb.length - s.tb.elapsed)).askLeap ⟨m, 49⟩ = s.elapse (s.tb.length - s.tb.elapsed) := askLeap_of_lt (Nat.lt_of_sub_eq_succ rfl) _
  have halike : State.AlikeFor n { s with tb := b.tb } b := by
    rw [← hb, setLength_frame, evaluate_frame, State.secondReached, hask]
    exact ⟨rfl, rfl, rfl, rfl⟩
  have hdecided := (compositionInstant_chan m n b).trans (halike.decideChannel m)
  rw [hb, compositionInstant_tb]
  generalize (b.compositionInstant m).chan n = c' at hdecided
  subst hdecided
  intro c now keys silent l p open_ record pass
  have hkeys : c.wouldKey ⟨m, 50, 0⟩ = true ↔ keys := by
    rw [Channel.wouldKey_iff]
    simp only [Moment.micros, keys, now, Nat.add_zero]
  have hend : minutesKept ≤ m + 1 ↔ m + 1 = minutesKept := ⟨fun h => Nat.le_antisymm hm h, fun h => h.ge⟩
  have hsilent : (b.tb.grade = 6 ∨ c.cfg.silence ≤ b.tb.grade ∨ minutesKept ≤ m + 1) ↔ silent :=
    or_congr_right (or_congr_right hend)
  have hl : labelledMinute c.cfg.mode (m + 1) = l := by
    unfold labelledMinute
    cases hmode : c.cfg.mode <;> simp only [l, hmode]
  refine ⟨fun hno => ?_, fun id hk hclaim => decideChannel_claim (hkeys.mpr hk) hclaim,
    fun hk hclaim hs => decideChannel_silent (hkeys.mpr hk) hclaim (hsilent.mpr hs), fun hk hclaim hs => ?_⟩
  · exact (congrArg (fun t : State => t.chan n) (decideChannel_kept (s := { s with tb := b.tb }) fun h => hno (hkeys.mp h))).trans rfl
  · have hstaged := decideChannel_staged (s := { s with tb := b.tb }) (hkeys.mpr hk) hclaim fun h => hs (hsilent.mp h)
    rw [hstaged]
    refine ⟨_, rfl, rfl, rfl, hl, rfl, rfl, rfl, rfl, rfl, fun hmask => ?_, fun hmask => ?_,
      congrArg (fun l => (s.profileAt c.cfg.link l).offset) hl, congrArg (fun l => (s.profileAt c.cfg.link l).summer) hl,
      congrArg (fun l => (s.profileAt c.cfg.link l).labelCode) hl,
      congrArg (fun l : Nat => civilOf ((l : Int) + 15 * (s.profileAt c.cfg.link l).offset)) hl, rfl, rfl⟩
    · exact ⟨if_pos hmask, if_pos hmask⟩
    · have hunmasked : ¬c.cfg.mask.notice = true := by rw [hmask]; exact Bool.false_ne_true
      have hpass : (if c.cfg.mask.notice = true then c.record
          else c.record.chosen (s.candidates n (labelledMinute c.cfg.mode (m + 1))) c.cfg.dwell) = pass := by
        rw [if_neg hunmasked, hl]
        rfl
      refine ⟨(if_neg hunmasked).trans (congrArg₂ s.noticeOf hpass hl), (if_neg hunmasked).trans ?_⟩
      exact congrArg Arbiter.carry ((if_neg hunmasked).symm.trans hpass)

end Sys2Proof.Machine
end

section
/-! The causes of a minute boundary, the second that follows, and the fall into UNSET (R1, R5, R11, R12, R64, R67). -/

namespace Sys2Proof.Machine

/-! ### The causes a boundary pass can raise -/

/-- The causes of the calendar's moves, and those of the channels it releases. -/
abbrev State.RaisesCalendarCauses : State → State → Prop := State.Raises 0x006F

theorem foldl_raises {α : Type} {m : BitVec 13} {f : State → α → State} (h : ∀ (s : State) (a : α), s.Raises m (f s a)) (l : List α) (s : State) :
    s.Raises m (l.foldl f s) := by
  induction l generalizing s with
  | nil => exact .of_att rfl
  | cons a l ih => exact (h s a).trans (ih _)

theorem joinRing_causes (i : Nat) (s : State) : s.RaisesCalendarCauses (s.joinRing i) := by
  unfold State.joinRing
  split
  · exact .of_att rfl
  · exact (State.Raises.of_att (s := s) (t := { s with cal := { s.cal with ring := s.cal.ring ++ [i] } }) rfl).raise rfl

theorem onEntry_raises {m : BitVec 13} {move : Entry → State → State} (h : ∀ (e : Entry) (s : State), s.Raises m (move e s)) (i : Nat) (s : State) :
    s.Raises m (s.onEntry i move) := by
  unfold State.onEntry
  split
  · exact h _ s
  · exact .of_att rfl

theorem openEntry_causes (now : Nat) (e : Entry) (s : State) : s.RaisesCalendarCauses (s.openEntry now e) := by
  unfold State.openEntry
  split
  · exact (joinRing_causes e.ident _).after rfl
  · exact .of_att rfl

theorem commitEntry_causes (now : Nat) (e : Entry) (s : State) : s.RaisesCalendarCauses (s.commitEntry now e) := by
  unfold State.commitEntry
  split <;> exact .of_att rfl

theorem effectEntry_causes (now : Nat) (e : Entry) (s : State) : s.RaisesCalendarCauses (s.effectEntry now e) := by
  have hfinish : ∀ (o : EntryOutcome) (t : State), t.att = s.att → s.RaisesCalendarCauses (t.finishEntry e o) := fun o t ht =>
    .of_att ((finishEntry_att e o t).trans ht)
  unfold State.effectEntry
  split
  · split
    · exact (hfinish _ _ (applyPayload_att _ s)).raise rfl
    · exact (hfinish _ s rfl).raise rfl
    · split <;> exact (hfinish _ s rfl).raise rfl
    · split <;> exact (hfinish _ s rfl).raise rfl
    · exact (State.Raises.of_att (t := (s.leaveRing e.ident).modifyEntry e.ident fun e => { e with state := .inEffect, locked := true })
        (leaveRing_att _ s)).raise rfl
  · exact .of_att rfl

theorem endOutage_causes (now : Nat) (e : Entry) (s : State) : s.RaisesCalendarCauses (s.endOutage now e) := by
  unfold State.endOutage
  split
  · exact (((release_causes e.ident _).after (finishEntry_att e _ s)).mono rfl).raise rfl
  · exact .of_att rfl

theorem passEntry_causes (now i : Nat) (s : State) : s.RaisesCalendarCauses (s.passEntry now i) :=
  (((onEntry_raises (openEntry_causes now) i s).trans (onEntry_raises (commitEntry_causes now) i _)).trans
    (onEntry_raises (effectEntry_causes now) i _)).trans (onEntry_raises (endOutage_causes now) i _)

theorem boundaryPass_causes (now : Nat) (s : State) : s.RaisesCalendarCauses (s.boundaryPass now) :=
  (foldl_raises (fun s i => passEntry_causes now i s) _ s.removeWithdrawn).after (removeWithdrawn_att s)

theorem testDeferred_causes (n : Fin 4) (s : State) : s.RaisesChannelCauses (s.testDeferred n) := by
  unfold State.testDeferred
  dsimp only
  split
  · exact (startResuming_causes n s).raise rfl
  · exact .of_att rfl

theorem testDeferred_each_causes (s : State) : s.RaisesChannelCauses (s.eachChannel State.testDeferred) :=
  (((testDeferred_causes 0 s).trans (testDeferred_causes 1 _)).trans (testDeferred_causes 2 _)).trans (testDeferred_causes 3 _)

theorem minuteBoundary_causes (now : Nat) (s : State) : s.RaisesCalendarCauses (s.minuteBoundary now) :=
  (boundaryPass_causes now s).trans ((testDeferred_each_causes _).mono rfl)

theorem setLength_att (s : State) : s.setLength.att = s.att := by rw [setLength_frame]

/-- What a second's start raises beyond its evaluation is of the calendar. -/
theorem handOn_causes (u : UtcSecond) (s : State) : s.evaluate.RaisesCalendarCauses (s.handOn u) := by
  unfold State.handOn
  dsimp only
  split
  · exact (minuteBoundary_causes _ _).after (setLength_att _)
  · split
    · exact .of_att (by rw [compositionInstant_frame]; exact setLength_att _)
    · exact .of_att (setLength_att _)


/-! ### The second that follows, and the leap question -/

theorem Calendar.committedLeap_iff {c : Calendar} {k : Kind} {i : Nat} :
    c.committedLeap k i = true ↔ ∃ e ∈ c.entries, e.kind = k ∧ e.state = .committed ∧ e.instant = i := by
  simp [Calendar.committedLeap, and_assoc]

section
variable {u : UtcSecond} {s : State}

theorem secondAfter_deleted (h : u.second = 58) (hends : endsMonth u.minute = true) (hleap : s.cal.committedLeap .leapDelete (u.minute + 1) = true) :
    s.secondAfter u = ⟨u.minute + 1, 0⟩ := if_pos ⟨h, hends, hleap⟩

theorem secondAfter_undeleted (h : u.second = 58)
    (hno : ¬(endsMonth u.minute = true ∧ s.cal.committedLeap .leapDelete (u.minute + 1) = true)) : s.secondAfter u = ⟨u.minute, 59⟩ := by
  unfold State.secondAfter
  rw [if_neg fun hd => hno hd.2, if_neg fun hi => by omega, if_neg (by omega), h]

theorem secondAfter_inserted (h : u.second = 59) (hends : endsMonth u.minute = true)
    (hleap : s.cal.committedLeap .leapInsert (u.minute + 1) = true) : s.secondAfter u = ⟨u.minute, 60⟩ := by
  unfold State.secondAfter
  rw [if_neg fun hd => by omega, if_pos ⟨h, hends, hleap⟩]

theorem secondAfter_uninserted (h : u.second = 59)
    (hno : ¬(endsMonth u.minute = true ∧ s.cal.committedLeap .leapInsert (u.minute + 1) = true)) : s.secondAfter u = ⟨u.minute + 1, 0⟩ := by
  unfold State.secondAfter
  rw [if_neg fun hd => by omega, if_neg fun hi => hno hi.2, if_pos (by omega)]

theorem secondAfter_past (h : 60 ≤ u.second) : s.secondAfter u = ⟨u.minute + 1, 0⟩ := by
  unfold State.secondAfter
  rw [if_neg fun hd => by omega, if_neg fun hi => by omega, if_pos (by omega)]

theorem secondAfter_cal {t : State} (h : t.cal = s.cal) (u : UtcSecond) : t.secondAfter u = s.secondAfter u := by
  unfold State.secondAfter; rw [h]

/-- A yes to the leap question sets the mark of the entry that the second's end asks about (R67). -/
theorem askLeap_cal {asked : Entry → Prop} [DecidablePred asked] (h : ∀ e, asked e ↔ endsMonth u.minute = true ∧ e.state = .committed ∧
      e.instant = u.minute + 1 ∧ ((u.second = 58 ∧ e.kind = .leapDelete) ∨ (u.second = 59 ∧ e.kind = .leapInsert))) :
    (s.askLeap u).cal = { s.cal with entries := s.cal.entries.map fun e => if asked e then { e with leapExecuted := true } else e } := by
  have hnone : (∀ e, ¬asked e) → s.cal = { s.cal with
      entries := s.cal.entries.map fun e => if asked e then { e with leapExecuted := true } else e } := fun hno => by
    simp only [if_neg (hno _), List.map_id']
  have hkind : ∀ k, (∀ e, asked e ↔ e.kind = k ∧ e.state = .committed ∧ e.instant = u.minute + 1) → ({ s.cal with entries := s.cal.entries.map fun e =>
      if e.kind = k ∧ e.state = .committed ∧ e.instant = u.minute + 1 then { e with leapExecuted := true } else e } : Calendar) =
      { s.cal with entries := s.cal.entries.map fun e => if asked e then { e with leapExecuted := true } else e } := fun k hk => by
    refine congrArg (fun es => ({ s.cal with entries := es } : Calendar)) (List.map_congr_left fun e _ => ?_)
    exact if_congr (hk e).symm rfl rfl
  unfold State.askLeap
  by_cases hends : endsMonth u.minute = true
  · by_cases h59 : u.second = 59
    · have hasked : leapAsked u = some .leapInsert := by simp only [leapAsked, if_pos hends, if_pos h59]
      rw [hasked]
      refine hkind .leapInsert fun e => (h e).trans ?_
      simp [hends, h59, and_comm, and_assoc]
    · by_cases h58 : u.second = 58
      · have hasked : leapAsked u = some .leapDelete := by simp only [leapAsked, if_pos hends, if_neg h59, if_pos h58]
        rw [hasked]
        refine hkind .leapDelete fun e => (h e).trans ?_
        simp [hends, h58, and_comm, and_assoc]
      · have hasked : leapAsked u = none := by simp only [leapAsked, if_pos hends, if_neg h59, if_neg h58]
        rw [hasked]
        exact hnone fun e he => by simpa [h58, h59] using (h e).mp he
  · have hasked : leapAsked u = none := by simp only [leapAsked, if_neg hends]
    rw [hasked]
    exact hnone fun e he => hends ((h e).mp he).1

theorem askLeap_profiles : (s.askLeap u).profiles = s.profiles := by
  unfold State.askLeap; split <;> rfl

theorem askLeap_ret : (s.askLeap u).ret = s.ret := by rw [askLeap_calendarOnly u s]

theorem askLeap_elapse_cal (d : Nat) : ((s.elapse d).askLeap u).cal = (s.askLeap u).cal := by
  unfold State.askLeap; split <;> rfl

end

/-! ### The fall into UNSET -/

theorem fallUnset_tb (s : State) : s.fallUnset.tb = { s.tb with
    state := .unset, time := none, elapsed := 0, measured := none, phaseError := 0, grade := 6
    gradeChanged := s.tb.gradeChanged || decide (s.tb.grade ≠ 6) } := by
  unfold State.fallUnset State.eachChannel
  rw [endChannel_tb, endChannel_tb, endChannel_tb, endChannel_tb, deriveGrade_tb, select_tb, abortMeasurement_tb]
  rfl

end Sys2Proof.Machine
end

section
/-! STATION_SECOND: the selection by the table of R29, the timebase that follows it, and the second's label (R1, R5, R11, R12, R29, R64). -/

namespace Sys2Proof.Machine

/-! ### The table of R29 -/

section
variable {s : State}

theorem selectionAfter_congr {t : State} (h : t.mon = s.mon) : t.selectionAfter = s.selectionAfter := by
  unfold State.selectionAfter
  rw [h]
  cases s.mon.selection with
  | none => rfl
  | some r =>
    dsimp only
    rw [ref_congr h r, ref_congr h (otherRef r)]

theorem selectionAfter_idle (hnone : s.mon.selection = none) (hcand : ∀ r, (s.ref r).candidate = false) : s.selectionAfter = none := by
  have ha : s.mon.a.candidate = false := hcand .a
  have hb : s.mon.b.candidate = false := hcand .b
  unfold State.selectionAfter
  rw [hnone]
  simp [ha, hb]

/-- With none selected, the candidate that is first, or alone, is selected. -/
theorem selectionAfter_first (hsound : s.mon.sound) (hnone : s.mon.selection = none) {r : Ref} (hcand : (s.ref r).candidate = true)
    (hfirst : (s.ref r).priority = 1 ∨ (s.ref (otherRef r)).candidate = false) : s.selectionAfter = some r := by
  unfold State.selectionAfter
  rw [hnone]
  cases r with
  | a =>
    have ha : s.mon.a.candidate = true := hcand
    have hprio : (s.mon.a.priority == 1 || !s.mon.b.candidate) = true := by
      rcases hfirst with h | h
      · have h : s.mon.a.priority = 1 := h
        simp [h]
      · have h : s.mon.b.candidate = false := h
        simp [h]
    simp [ha, hprio]
  | b =>
    have hb : s.mon.b.candidate = true := hcand
    have hprio : s.mon.a.candidate = true → s.mon.a.priority ≠ 1 := fun ha => by
      rcases hfirst with h | h
      · have h : s.mon.b.priority = 1 := h
        rcases hsound with ⟨-, h2⟩ | ⟨h1, -⟩ <;> omega
      · have h : s.mon.a.candidate = false := h
        rw [h] at ha; cases ha
    simpa [hb] using hprio

theorem Monitor.sound_priority (hsound : s.mon.sound) (r : Ref) : (s.ref r).priority ≠ 1 ↔ (s.ref r).priority = 2 := by
  cases r with
  | a => rcases hsound with ⟨h, -⟩ | ⟨h, -⟩ <;> simp [State.ref, h]
  | b => rcases hsound with ⟨-, h⟩ | ⟨-, h⟩ <;> simp [State.ref, h]

/-- A selected candidate stays, but gives way to the first reference after its 60 seconds as a candidate. -/
theorem selectionAfter_selected (hsound : s.mon.sound) {r : Ref} (hsel : s.mon.selection = some r) (hcand : (s.ref r).candidate = true) :
    s.selectionAfter = some (if s.mon.revertive = true ∧ (s.ref r).priority = 2 ∧ 60 ≤ (s.ref (otherRef r)).candidateRun then otherRef r else r) := by
  unfold State.selectionAfter
  rw [hsel]
  simp only [hcand, if_true, Bool.and_eq_true, bne_iff_ne, decide_eq_true_eq, and_assoc, Monitor.sound_priority hsound r]
  split <;> rfl

theorem selectionAfter_lost {r : Ref} (hsel : s.mon.selection = some r) (hcand : (s.ref r).candidate = false) :
    s.selectionAfter = if (s.ref (otherRef r)).candidate = true then some (otherRef r) else none := by
  unfold State.selectionAfter
  rw [hsel]
  simp only [hcand, Bool.false_eq_true, if_false]

end

/-! ### What the evaluation raises -/

theorem deriveGrade_raises (s : State) : s.Raises 0x0080 s.deriveGrade := by
  unfold State.deriveGrade
  dsimp only
  split
  · exact .of_att rfl
  · exact (State.Raises.of_att (s := s) (t := { s with
      tb := { s.tb with grade := gradeOf s.tb.state s.tb.phaseError s.holdoverDuration, gradeChanged := true } }) rfl).raise (c := .gradeChanged) rfl

theorem followSelection_raises (s : State) : s.Raises 0x0080 s.followSelection := by
  unfold State.followSelection
  split
  · exact .of_att rfl
  · exact (deriveGrade_raises _).after rfl
  · exact (deriveGrade_raises _).after rfl
  · exact .of_att rfl

/-- What a second's start raises beyond the change of selection. -/
theorem handOn_raises (u : UtcSecond) (s : State) : s.reselected.Raises 0x00EF (s.handOn u) :=
  ((followSelection_raises s.reselected).mono rfl).trans ((handOn_causes u s).mono rfl)

theorem reselected_att (s : State) : s.reselected.att = { s.att with
    flags := if s.evaluate.mon.selection = s.mon.selection then s.att.flags else s.att.flags ||| 0x0100 } := by
  rw [evaluate_selection]
  exact select_att _ _ _

/-- REFERENCE CHANGED at a change of selection (R29, R35). -/
theorem handOn_referenceChanged (u : UtcSecond) (s : State) : (s.handOn u).att.flags.getLsbD 8 =
    if s.evaluate.mon.selection = s.mon.selection then s.att.flags.getLsbD 8 else true := by
  rw [(handOn_raises u s).bit rfl, reselected_att]
  split
  · rfl
  · simp


/-! ### The timebase after the evaluation -/

section
variable {s : State}

theorem reselected_selection (s : State) : s.reselected.mon.selection = s.evaluate.mon.selection := by rw [evaluate_mon]

theorem reselected_ret (s : State) : s.reselected.ret = s.ret := by rw [State.reselected, select_frame]; rfl

theorem evaluate_kept_tb (h : s.evaluate.mon.selection = none ↔ s.tb.state ≠ .locked) : s.evaluate.tb = s.tb := by
  rw [evaluate_reselected, followSelection_kept (by rw [reselected_selection, reselected_tb]; exact h), reselected_tb]

/-- From LOCKED to HOLDOVER: the holdover begins now (R5, R13). -/
theorem evaluate_holdover_tb (hsel : s.evaluate.mon.selection = none) (hst : s.tb.state = .locked) : s.evaluate.tb.state = .holdover ∧
    s.evaluate.tb.holdoverStart = some s.ret.runSeconds ∧ s.evaluate.tb.phaseError = 0 ∧ s.evaluate.tb.grade = 2 := by
  rw [evaluate_reselected, followSelection_holdover (by rw [reselected_selection]; exact hsel) (by rw [reselected_tb]; exact hst),
    deriveGrade_tb]
  refine ⟨rfl, congrArg (fun r => some r.runSeconds) (reselected_ret s), rfl, ?_⟩
  dsimp only
  rw [holdoverDuration_of rfl rfl]
  dsimp only
  rw [sub_self]
  rfl

/-- To LOCKED: the grade is that of the phase error held (R5, R13). -/
theorem evaluate_locked_tb (hsel : s.evaluate.mon.selection ≠ none) (hst : s.tb.state ≠ .locked) : s.evaluate.tb.state = .locked ∧
    s.evaluate.tb.holdoverStart = none ∧ s.evaluate.tb.phaseError = s.tb.phaseError ∧
    s.evaluate.tb.grade = if s.tb.phaseError.natAbs ≤ 10 then 0 else 1 := by
  rw [evaluate_reselected, followSelection_locked (by rw [reselected_selection]; exact hsel) (by rw [reselected_tb]; exact hst),
    deriveGrade_tb, reselected_tb]
  exact ⟨rfl, rfl, rfl, rfl⟩

/-- What a second's start leaves of the timebase besides its length is what the evaluation left. -/
theorem handOn_tb_fields (u : UtcSecond) (s : State) : (s.handOn u).tb.state = s.evaluate.tb.state ∧
    (s.handOn u).tb.holdoverStart = s.evaluate.tb.holdoverStart ∧ (s.handOn u).tb.phaseError = s.evaluate.tb.phaseError ∧
    (s.handOn u).tb.grade = s.evaluate.tb.grade ∧ (s.handOn u).tb.time = s.tb.time ∧ (s.handOn u).tb.elapsed = s.tb.elapsed := by
  rw [handOn_tb, setLength_kept, (evaluate_followed s).kept]
  exact ⟨rfl, rfl, rfl, rfl, rfl, rfl⟩

/-! ### The calendar after a second's start -/

theorem evaluate_sameBook (s : State) : s.SameBook s.evaluate.setLength := by
  rw [setLength_frame, evaluate_frame]
  exact ⟨rfl, rfl⟩

theorem handOn_sameBook {u : UtcSecond} (h : u.second ≠ 0) (s : State) : s.SameBook (s.handOn u) := by
  unfold State.handOn
  dsimp only
  rw [if_neg h]
  split
  · rw [compositionInstant_frame]
    exact (evaluate_sameBook s).trans ⟨rfl, rfl⟩
  · exact evaluate_sameBook s

theorem testDeferred_each_sameBook (s : State) : s.SameBook (s.eachChannel State.testDeferred) := by
  rw [eachChannel_frame testDeferred_frame]
  exact ⟨rfl, rfl⟩

/-- A second 0 runs the boundary pass (R64). -/
theorem handOn_boundaryPass {u : UtcSecond} (h : u.second = 0) {s t : State} (hbook : t.SameBook s) :
    (t.boundaryPass u.minute).SameBook (s.handOn u) := by
  unfold State.handOn
  dsimp only
  rw [if_pos h]
  exact (KeepsSameBook.boundaryPass u.minute t _ (hbook.trans (evaluate_sameBook s))).trans (testDeferred_each_sameBook _)

end


/-! ### The station second -/

theorem stationSecond_blocksOnly {s : State} {u : UtcSecond} (h : s.tb.time = some u) :
    (s.elapse (s.tb.length - s.tb.elapsed)).blocksOnly (stationSecond s) := by
  unfold stationSecond
  rw [h]
  exact nextStationSecond_blocksOnly false u _

theorem secondReached_ret (u : UtcSecond) (s : State) : (s.secondReached u).ret = { s.ret with century := centuryOf (s.secondAfter u).minute } := by
  rw [State.secondReached, State.placeLabel_ret, askLeap_ret]
  rfl

theorem secondReached_cal (u : UtcSecond) (s : State) : (s.secondReached u).cal = (s.askLeap u).cal := by
  rw [State.secondReached, State.placeLabel_cal, askLeap_elapse_cal]

theorem secondReached_profiles (u : UtcSecond) (s : State) : (s.secondReached u).profiles = s.profiles := by
  rw [State.secondReached, State.placeLabel_profiles, askLeap_profiles]
  rfl

theorem askLeap_att (u : UtcSecond) (s : State) : (s.askLeap u).att = s.att := by
  unfold State.askLeap; split <;> rfl

theorem secondReached_att (u : UtcSecond) (s : State) : (s.secondReached u).att = s.att := by
  rw [State.secondReached, State.placeLabel_att, askLeap_att, State.elapse_att]

theorem handOn_ret (u : UtcSecond) (s : State) : (s.handOn u).ret = s.ret := by rw [handOn_frame]

theorem evaluated_candidateRun (x : RefRecord) : x.evaluated.candidateRun = if x.candidate = true then min 65535 (x.candidateRun + 1) else 0 := rfl

theorem RefRecord.candidate_iff (x : RefRecord) : x.candidate = true ↔ x.state = .qualified ∧ x.agreement = true := by
  simp [RefRecord.candidate]

theorem secondReached_runsUpdated (u : UtcSecond) (s : State) : (s.secondReached u).runsUpdated.selectionAfter = s.runsUpdated.selectionAfter :=
  selectionAfter_congr (by unfold State.runsUpdated; rw [secondReached_mon])

/-- Settles O13: the label by the leap question, the calendar by the boundary pass, the selection and the timebase by the second evaluation. -/
theorem stationSecondLabels : Obligations.StationSecondLabels := by
  intro u s hr htime leap asked marked candidate run
  have hleap : ∀ k, leap k ↔ s.cal.committedLeap k (u.minute + 1) = true := fun k => Calendar.committedLeap_iff.symm
  have hasked : (s.askLeap u).cal = marked.cal := askLeap_cal fun e => Iff.rfl
  have hblocks := stationSecond_blocksOnly htime
  refine ⟨s.secondAfter u, _, exec_stationSecond hr, by rw [hblocks]; rfl, by rw [hblocks]; rfl, fun h => secondAfter_of_lt h s,
    fun h he hl => secondAfter_deleted h he ((hleap _).mp hl), fun h hno => secondAfter_undeleted h fun hd => hno ⟨hd.1, (hleap _).mpr hd.2⟩,
    fun h he hl => secondAfter_inserted h he ((hleap _).mp hl), fun h hno => secondAfter_uninserted h fun hd => hno ⟨hd.1, (hleap _).mpr hd.2⟩,
    fun h => secondAfter_past h, fun hkept => ?_, fun hend => ?_, fun hkept hsound => ?_⟩
  · rw [stationSecond_eq htime hkept]
    obtain ⟨-, -, -, -, htimed, helapsed⟩ := handOn_tb_fields (s.secondAfter u) (s.secondReached u)
    rw [secondReached_tb] at htimed helapsed
    have hbook : marked.SameBook (s.secondReached u) := ⟨(secondReached_cal u s).trans hasked, secondReached_profiles u s⟩
    refine ⟨htimed, helapsed, (handOn_ret _ _).trans (secondReached_ret u s), fun h => ?_, fun h => ?_⟩
    · obtain ⟨hcal, hprofiles⟩ := hbook.trans (handOn_sameBook h (s.secondReached u))
      exact ⟨hcal, hprofiles⟩
    · obtain ⟨hcal, hprofiles⟩ := handOn_boundaryPass h hbook
      exact ⟨hcal, hprofiles⟩
  · rw [stationSecond_unset htime hend, fallUnset_tb]
    refine ⟨rfl, rfl, rfl, rfl, ?_⟩
    rw [fallUnset_frame]
    exact askLeap_ret
  · rw [stationSecond_eq htime hkept]
    have hmon : (s.secondReached u).mon = s.mon := secondReached_mon
    have hcandidate : ∀ r, candidate r ↔ (s.runsUpdated.ref r).candidate = true := fun r => by
      rw [runsUpdated_ref, evaluated_candidate, RefRecord.candidate_iff]
    have hnot : ∀ r, ¬candidate r → (s.runsUpdated.ref r).candidate = false := fun r h => Bool.eq_false_iff.mpr fun hc => h ((hcandidate r).mpr hc)
    have hrun : ∀ r, (s.ref r).evaluated.candidateRun = run r := fun r => by
      rw [evaluated_candidateRun]
      exact if_congr (RefRecord.candidate_iff _) rfl rfl
    have hruns : s.runsUpdated.mon.sound := hsound
    have hpriority : ∀ r, (s.runsUpdated.ref r).priority = (s.ref r).priority := fun r => by rw [runsUpdated_ref]; rfl
    have hselection : (s.secondReached u).evaluate.mon.selection = s.runsUpdated.selectionAfter :=
      (evaluate_selection _).trans (secondReached_runsUpdated u s)
    have hrecord := fun r => (ref_congr (handOn_mon (s.secondAfter u) (s.secondReached u)) r).trans (evaluate_ref r (s.secondReached u))
    have hedge := (congrArg Monitor.firstEdge (handOn_mon (s.secondAfter u) (s.secondReached u))).trans (evaluate_firstEdge _)
    have hcause := handOn_referenceChanged (s.secondAfter u) (s.secondReached u)
    have hselected := (congrArg Monitor.selection (handOn_mon (s.secondAfter u) (s.secondReached u))).trans hselection
    have htb := handOn_tb_fields (s.secondAfter u) (s.secondReached u)
    have hkeep := evaluate_kept_tb (s := s.secondReached u)
    have hhold := evaluate_holdover_tb (s := s.secondReached u)
    have hlock := evaluate_locked_tb (s := s.secondReached u)
    simp only [secondReached_tb, secondReached_ret] at hkeep hhold hlock
    simp only [secondReached_runsUpdated, fun r => ref_congr hmon r, secondReached_att, hselection, hmon] at hrecord hedge hcause hkeep hhold hlock
    generalize (s.secondReached u).handOn (s.secondAfter u) = t at hrecord hedge hcause hselected htb
    obtain ⟨hstate, hstart, hphase, hgrade, -, -⟩ := htb
    refine ⟨fun r => ?refs, ?idle, ?first, ?selected, ?lost, ?same, ?changed, ?holdover, ?locked, ?stays⟩
    case refs =>
      rw [hrecord]
      split <;> exact ⟨hrun r, rfl⟩
    case idle =>
      intro hn ha hb
      refine hselected.trans (selectionAfter_idle hn fun r => ?_)
      cases r with
      | a => exact hnot .a ha
      | b => exact hnot .b hb
    case first =>
      intro r hn hc hfirst
      exact hselected.trans (selectionAfter_first hruns hn ((hcandidate r).mp hc) (hfirst.imp (hpriority r).trans (hnot _)))
    case selected =>
      intro r hr hc
      refine hselected.trans ((selectionAfter_selected hruns hr ((hcandidate r).mp hc)).trans (congrArg some (if_congr ?_ rfl rfl)))
      rw [hpriority, runsUpdated_ref, hrun]
      exact Iff.rfl
    case lost =>
      intro r hr hc
      exact hselected.trans ((selectionAfter_lost (s := s.runsUpdated) hr (hnot r hc)).trans (if_congr (hcandidate _).symm rfl rfl))
    case same =>
      intro h
      rw [hselected] at h
      exact ⟨by rw [hcause, if_pos h], by rw [hedge, if_pos h], fun r => by rw [hrecord, if_neg fun hc => hc.1 h]; rfl⟩
    case changed =>
      intro h
      rw [hselected] at h
      refine ⟨by rw [hcause, if_neg h], ?_, fun r hr => by rw [hrecord, if_pos ⟨h, hselected ▸ hr⟩]⟩
      rw [hedge, if_neg h]
      cases hsel : s.mon.selection with
      | some r => rfl
      | none =>
        rw [hsel] at h
        exact Option.isSome_iff_ne_none.mpr h
    case holdover =>
      intro hn hl
      rw [hselected] at hn
      rw [hstate, hstart, hphase, hgrade]
      exact hhold hn hl
    case locked =>
      intro hn hl
      rw [hselected] at hn
      rw [hstate, hstart, hphase, hgrade]
      exact hlock hn hl
    case stays =>
      intro h
      rw [hselected] at h
      rw [hstate, hstart, hphase, hgrade, hkeep h]
      exact ⟨rfl, rfl, rfl, rfl⟩

end Sys2Proof.Machine
end

section
/-! A pass over the calendar, each entry once: what a step of it does is written in a table, and what the pass does follows (R64, R72). -/

namespace Sys2Proof.Machine

/-! ### The table of a pass -/

/-- What a pass over the calendar does with each entry. -/
structure Sweep where
  /-- What becomes of the entry. -/
  becomes : Entry → Option Entry
  /-- Its payload takes effect on its profile. -/
  applies : Entry → Bool
  /-- It leaves the ring and the four arbiters. -/
  leaves : Entry → Bool
  /-- Its release is handed to the four channels. -/
  releases : Entry → Bool
  /-- The causes of the calendar that it raises. -/
  causes : Entry → BitVec 13

/-- The effect of a payload on the profile `k` (R43, R44). -/
def Payload.onProfile (k : Fin 4) (p : Payload) (x : Profile) : Profile :=
  match p with
  | .offsetChange i o f => if i = k then { x with offset := o, summer := f } else x
  | .leapInsert | .leapDelete | .interruption _ _ | .advisory _ _ => x

theorem applyPayload_get (k : Fin 4) (p : Payload) (s : State) : (s.applyPayload p).profiles.get k = p.onProfile k (s.profiles.get k) := by
  cases p with
  | offsetChange i o f =>
    refine (Four.get_set _ _ _ _).trans ?_
    by_cases hk : k = i
    · rw [if_pos hk, hk]
      exact (if_pos rfl).symm
    · rw [if_neg hk]
      exact (if_neg (Ne.symm hk)).symm
  | leapInsert => rfl
  | leapDelete => rfl
  | interruption c d => rfl
  | advisory c n => rfl

/-- The channel without an ident in its arbiter record (R112). -/
def Channel.forgets (i : Nat) (c : Channel) : Channel := { c with arbiter := c.arbiter.forget i }

/-- The channel would come back at a release naming `i` (R159). -/
structure Channel.ComesBack (i : Nat) (c : Channel) : Prop where
  held : c.state = .held .calendar
  named : c.heldBy = some i
  unspent : c.history.length < 4

namespace Sweep

/-- What a step does to a channel's arbiter record. -/
def onArbiter (w : Sweep) (c : Channel) (e : Entry) : Channel := if w.leaves e = true then c.forgets e.ident else c

/-- What a step does to a channel. -/
def onChannel (w : Sweep) (start : Moment) (now : RunSec) (c : Channel) (e : Entry) : Channel :=
  if w.releases e = true then (w.onArbiter c e).released e.ident start now else w.onArbiter c e

/-- What a step does to the profile `k`. -/
def onProfile (w : Sweep) (k : Fin 4) (x : Profile) (e : Entry) : Profile := if w.applies e = true then e.payload.onProfile k x else x

/-- The entry stays in the ring or joins it. -/
def rings (w : Sweep) (e : Entry) : Bool := (w.becomes e).any fun x => x.state.inRing

/-- The step from `s` to `t` that the table gives for the entry `e`. -/
structure Step (w : Sweep) (e : Entry) (s t : State) : Prop where
  cal : t.cal = s.cal.put e.ident (w.becomes e)
  profiles : ∀ k, t.profiles.get k = w.onProfile k (s.profiles.get k) e
  chan : ∀ n, t.chan n = w.onChannel (s.resumeMoment n) s.ret.runSeconds (s.chan n) e
  raised : t.att.flags ||| 0x0060 = s.att.flags ||| w.causes e ||| 0x0060
  stands : ∀ k, s.att.flags.getLsbD k = true → t.att.flags.getLsbD k = true
  event : w.releases e = true → ∀ n, (s.chan n).ComesBack e.ident → t.att.flags.getLsbD 5 = true
  tb : t.tb = s.tb
  ret : t.ret = s.ret

/-- The pass over the entries `l` from `s` to `t`. -/
structure Swept (w : Sweep) (l : List Entry) (s t : State) : Prop where
  entries : t.cal.entries = s.cal.entries.filterMap fun x => if x.ident ∈ l.map Entry.ident then w.becomes x else some x
  ring : t.cal.ring = (s.cal.ring.filter fun i => l.all fun e => decide (e.ident = i → w.rings e = true)) ++
    (l.filter fun e => w.rings e && decide (e.ident ∉ s.cal.ring)).map Entry.ident
  next : t.cal.nextIdent = s.cal.nextIdent
  profiles : ∀ k, t.profiles.get k = l.foldl (w.onProfile k) (s.profiles.get k)
  chan : ∀ n, t.chan n = l.foldl (w.onChannel (s.resumeMoment n) s.ret.runSeconds) (s.chan n)
  raised : ∀ k, (0x0060 : BitVec 13).getLsbD k = false →
    t.att.flags.getLsbD k = (s.att.flags.getLsbD k || l.any fun e => (w.causes e).getLsbD k)
  stands : ∀ k, s.att.flags.getLsbD k = true → t.att.flags.getLsbD k = true
  event : ∀ e ∈ l, w.releases e = true → ∀ n, (s.chan n).ComesBack e.ident → t.att.flags.getLsbD 5 = true
  tb : t.tb = s.tb
  ret : t.ret = s.ret

/-! ### A step of the pass -/

theorem released_arbiter (i : Nat) (start : Moment) (now : RunSec) (c : Channel) : (c.released i start now).arbiter = c.arbiter := by
  unfold Channel.released
  split
  · split
    · rfl
    · exact Channel.moved_arbiter _ _
  · split <;> rfl

variable {w : Sweep} {start : Moment} {now : RunSec}

theorem onArbiter_frame (c : Channel) (e : Entry) : w.onArbiter c e = { c with arbiter := (w.onArbiter c e).arbiter } := by
  unfold onArbiter; split <;> rfl

/-- A step for another entry than the one that holds the channel leaves it held. -/
theorem onChannel_comesBack {i : Nat} {c : Channel} (h : c.ComesBack i) {e : Entry} (hne : e.ident ≠ i) :
    (w.onChannel start now c e).ComesBack i := by
  obtain ⟨hheld, hnamed, hunspent⟩ := h
  have hforgot : (w.onArbiter c e).ComesBack i := by
    rw [onArbiter_frame]
    exact ⟨hheld, hnamed, hunspent⟩
  unfold onChannel
  split
  · obtain ⟨kheld, knamed, kunspent⟩ := hforgot
    have hno : ¬((w.onArbiter c e).state = .held .calendar ∧ (w.onArbiter c e).heldBy = some e.ident) := fun hc => by
      rw [knamed] at hc
      exact hne (Option.some.inj hc.2).symm
    rw [Channel.released, if_neg hno]
    split <;> exact ⟨kheld, knamed, kunspent⟩
  · exact hforgot

/-- Where an entry of a pass's list is replaced, the pass over the rest replaces the rest. -/
theorem becomes_rest {e : Entry} {l entries : List Entry} (hnodup : (entries.map Entry.ident).Nodup) (he : e ∈ entries)
    (hkeeps : ∀ e, ∀ x ∈ w.becomes e, x.ident = e.ident ∧ x.instant = e.instant) (hnew : e.ident ∉ l.map Entry.ident) :
    (entries.filterMap fun x => if x.ident = e.ident then w.becomes e else some x).filterMap
      (fun x => if x.ident ∈ l.map Entry.ident then w.becomes x else some x) =
    entries.filterMap fun x => if x.ident ∈ (e :: l).map Entry.ident then w.becomes x else some x := by
  rw [List.filterMap_filterMap]
  refine List.filterMap_congr fun x hx => ?_
  rw [List.map_cons]
  by_cases hi : x.ident = e.ident
  · have hxe := entry_eq_of_ident hnodup hx he hi
    subst hxe
    rw [if_pos rfl, if_pos List.mem_cons_self]
    cases hy : w.becomes x with
    | none => rfl
    | some y =>
      have hident : y.ident = x.ident := (hkeeps x y hy).1
      rw [Option.bind_some, if_neg (by rw [hident]; exact hnew)]
  · rw [if_neg hi, Option.bind_some]
    exact if_congr (by simp [hi]) rfl rfl

/-- The ring after a step and the pass over the rest. -/
theorem ring_rest {e : Entry} {l : List Entry} {c : Calendar} (hnew : e.ident ∉ l.map Entry.ident) :
    ((c.put e.ident (w.becomes e)).ring.filter fun i => l.all fun x => decide (x.ident = i → w.rings x = true)) ++
      (l.filter fun x => w.rings x && decide (x.ident ∉ (c.put e.ident (w.becomes e)).ring)).map Entry.ident =
    (c.ring.filter fun i => (e :: l).all fun x => decide (x.ident = i → w.rings x = true)) ++
      ((e :: l).filter fun x => w.rings x && decide (x.ident ∉ c.ring)).map Entry.ident := by
  have hne : ∀ x ∈ l, x.ident ≠ e.ident := fun x hx h => hnew (List.mem_map.mpr ⟨x, hx, h⟩)
  have hjoins : (l.filter fun x => w.rings x && decide (x.ident ∉ (c.put e.ident (w.becomes e)).ring)) =
      l.filter fun x => w.rings x && decide (x.ident ∉ c.ring) := by
    refine List.filter_congr fun x hx => ?_
    have hsame : x.ident ∈ (c.put e.ident (w.becomes e)).ring ↔ x.ident ∈ c.ring := by
      rw [Calendar.mem_put_ring]
      simp [hne x hx]
    rw [decide_eq_decide.mpr (not_congr hsame)]
  have hfree : ∀ x ∈ l, decide (x.ident = e.ident → w.rings x = true) = true := fun x hx => by simp [hne x hx]
  rw [hjoins]
  simp only [Calendar.put, List.all_cons]
  by_cases hrings : w.rings e = true
  · have hany : ((w.becomes e).any fun x => x.state.inRing) = true := hrings
    simp only [hany, if_true, hrings, implies_true, decide_true, Bool.true_and]
    by_cases hin : e.ident ∈ c.ring
    · rw [if_pos hin, List.filter_cons_of_neg (by simp [hin])]
    · rw [if_neg hin, List.filter_cons_of_pos (by simp [hin, hrings]), List.filter_append, List.filter_cons_of_pos, List.filter_nil,
        List.append_assoc, List.map_cons]
      · rfl
      · exact List.all_eq_true.mpr hfree
  · have hany : ((w.becomes e).any fun x => x.state.inRing) ≠ true := hrings
    rw [if_neg hany, List.filter_cons_of_neg (by simp [hrings]), List.filter_filter]
    congr 1
    refine List.filter_congr fun i _ => ?_
    have hgone : decide (e.ident = i → w.rings e = true) = decide (i ≠ e.ident) := decide_eq_decide.mpr ⟨fun h hi => hrings (h hi.symm), fun h hi => absurd hi.symm h⟩
    rw [hgone, Bool.and_comm]

theorem swept_nil (w : Sweep) (s : State) : w.Swept [] s s where
  entries := by simp
  ring := by simp
  next := rfl
  profiles _ := rfl
  chan _ := rfl
  raised _ _ := by simp
  stands _ h := h
  event _ h := absurd h List.not_mem_nil
  tb := rfl
  ret := rfl

/-- A step and then the pass over the rest. -/
theorem Step.swept {e : Entry} {l : List Entry} {s t u : State} (h : w.Step e s t) (k : w.Swept l t u) (hsound : s.cal.sound) (he : e ∈ s.cal.entries)
    (hkeeps : ∀ e, ∀ x ∈ w.becomes e, x.ident = e.ident ∧ x.instant = e.instant) (hnew : e.ident ∉ l.map Entry.ident) :
    w.Swept (e :: l) s u where
  entries := by
    rw [k.entries, h.cal]
    exact becomes_rest hsound.holds.idents he hkeeps hnew
  ring := by
    rw [k.ring, h.cal]
    exact ring_rest hnew
  next := by rw [k.next, h.cal]; rfl
  profiles p := by rw [k.profiles, h.profiles, List.foldl_cons]
  chan n := by rw [k.chan, h.chan, List.foldl_cons, resumeMoment_congr h.tb h.ret, h.ret]
  raised b hb := by
    have hbit := congrArg (fun x : BitVec 13 => x.getLsbD b) h.raised
    simp only [BitVec.getLsbD_or, hb, Bool.or_false] at hbit
    rw [k.raised b hb, hbit, List.any_cons, Bool.or_assoc]
  stands b hb := k.stands b (h.stands b hb)
  event x hx hr n hback := by
    rcases List.mem_cons.mp hx with rfl | hx
    · exact k.stands 5 (h.event hr n hback)
    · refine k.event x hx hr n ?_
      rw [h.chan]
      exact onChannel_comesBack hback fun hi => hnew (List.mem_map.mpr ⟨x, hx, hi.symm⟩)
  tb := k.tb.trans h.tb
  ret := k.ret.trans h.ret

/-- A pass whose every step is the table's is the table's pass. -/
theorem fold_swept {f : State → Nat → State} {b : Timebase} (hkeeps : ∀ e, ∀ x ∈ w.becomes e, x.ident = e.ident ∧ x.instant = e.instant)
    (hstep : ∀ (s : State) (e : Entry), s.cal.sound → s.tb = b → e ∈ s.cal.entries → w.Step e s (f s e.ident)) (l : List Entry)
    (hnodup : (l.map Entry.ident).Nodup) {s : State} (hsound : s.cal.sound) (hb : s.tb = b) (hmem : ∀ e ∈ l, e ∈ s.cal.entries) :
    w.Swept l s ((l.map Entry.ident).foldl f s) := by
  induction l generalizing s with
  | nil => exact swept_nil w s
  | cons e l ih =>
    obtain ⟨hnew, hrest⟩ := List.nodup_cons.mp hnodup
    have he := hmem e List.mem_cons_self
    have h := hstep s e hsound hb he
    have hsound' : (f s e.ident).cal.sound := by rw [h.cal]; exact hsound.put he (hkeeps e)
    have hmem' : ∀ x ∈ l, x ∈ (f s e.ident).cal.entries := fun x hx => by
      rw [h.cal, Calendar.mem_put]
      exact .inl ⟨hmem x (List.mem_cons_of_mem _ hx), fun hi => hnew (List.mem_map.mpr ⟨x, hx, hi⟩)⟩
    exact h.swept (ih hrest hsound' (h.tb.trans hb) hmem') hsound he hkeeps hnew

end Sweep


/-! ### What a pass does to a channel -/

theorem Arbiter.keep_all (a : Arbiter) : (a.keep fun _ => true) = a := by
  obtain ⟨slot, stack, mark⟩ := a
  cases slot <;> simp [Arbiter.keep]

theorem Arbiter.keep_keep (p q : Nat → Bool) (a : Arbiter) : (a.keep p).keep q = a.keep fun i => p i && q i := by
  obtain ⟨slot, stack, mark⟩ := a
  cases slot <;> simp [Arbiter.keep, List.filter_filter, Bool.and_comm, Option.filter_filter]

namespace Channel

/-- The channel but for its arbiter record. -/
def SameButArbiter (c d : Channel) : Prop := d = { c with arbiter := d.arbiter }

/-- The channel but for its arbiter record and its claim. -/
def SameButClaim (c d : Channel) : Prop := d = { c with arbiter := d.arbiter, claim := d.claim, claimCancelled := d.claimCancelled }

theorem SameButArbiter.trans {c d f : Channel} (h : c.SameButArbiter d) (k : d.SameButArbiter f) : c.SameButArbiter f := by
  unfold SameButArbiter at *
  rw [k, h]

theorem SameButClaim.trans {c d f : Channel} (h : c.SameButClaim d) (k : d.SameButClaim f) : c.SameButClaim f := by
  unfold SameButClaim at *
  rw [k, h]

end Channel

namespace Sweep

variable {w : Sweep} {start : Moment} {now : RunSec}

theorem onArbiter_same (c : Channel) (e : Entry) : c.SameButArbiter (w.onArbiter c e) := onArbiter_frame c e

/-- A step that releases nothing of the channel's touches its arbiter record alone. -/
theorem onChannel_unnamed {c : Channel} {e : Entry}
    (h : w.releases e = true → ¬(c.state = .held .calendar ∧ c.heldBy = some e.ident) ∧ c.claim ≠ some e.ident) :
    c.SameButArbiter (w.onChannel start now c e) := by
  have hsame := onArbiter_same (w := w) c e
  unfold onChannel
  split
  · next hr =>
    obtain ⟨hheld, hclaim⟩ := h hr
    rw [Channel.released_unnamed (c := w.onArbiter c e) (by rw [hsame]; exact hheld) (by rw [hsame]; exact hclaim)]
    exact hsame
  · exact hsame

/-- A step that does not release the channel touches its arbiter record and its claim alone. -/
theorem onChannel_unheld {c : Channel} {e : Entry} (h : w.releases e = true → ¬(c.state = .held .calendar ∧ c.heldBy = some e.ident)) :
    c.SameButClaim (w.onChannel start now c e) := by
  have hsame := onArbiter_same (w := w) c e
  unfold onChannel
  split
  · next hr =>
    have hheld : ¬((w.onArbiter c e).state = .held .calendar ∧ (w.onArbiter c e).heldBy = some e.ident) := by rw [hsame]; exact h hr
    by_cases hclaim : (w.onArbiter c e).claim = some e.ident
    · rw [Channel.released_unclaims hheld hclaim, hsame]
      rfl
    · rw [Channel.released_unnamed hheld hclaim, hsame]
      rfl
  · rw [hsame]
    rfl

/-- A pass that releases nothing of the channel's touches its arbiter record alone. -/
theorem fold_unnamed (l : List Entry) {c : Channel}
    (h : ∀ e ∈ l, w.releases e = true → ¬(c.state = .held .calendar ∧ c.heldBy = some e.ident) ∧ c.claim ≠ some e.ident) :
    c.SameButArbiter (l.foldl (w.onChannel start now) c) := by
  induction l generalizing c with
  | nil => rfl
  | cons e l ih =>
    have hstep : c.SameButArbiter (w.onChannel start now c e) := onChannel_unnamed (h e List.mem_cons_self)
    refine hstep.trans (ih fun x hx hr => ?_)
    rw [hstep]
    exact h x (List.mem_cons_of_mem _ hx) hr

/-- A pass that does not release the channel touches its arbiter record and its claim alone. -/
theorem fold_unheld (l : List Entry) {c : Channel} (h : ∀ e ∈ l, w.releases e = true → ¬(c.state = .held .calendar ∧ c.heldBy = some e.ident)) :
    c.SameButClaim (l.foldl (w.onChannel start now) c) := by
  induction l generalizing c with
  | nil => rfl
  | cons e l ih =>
    have hstep : c.SameButClaim (w.onChannel start now c e) := onChannel_unheld (h e List.mem_cons_self)
    refine hstep.trans (ih fun x hx hr => ?_)
    rw [hstep]
    exact h x (List.mem_cons_of_mem _ hx) hr

/-- A list of entries about one of them, whose ident no other has. -/
theorem split_entry {l : List Entry} (hnodup : (l.map Entry.ident).Nodup) {e : Entry} (he : e ∈ l) :
    ∃ l1 l2, l = l1 ++ e :: l2 ∧ ∀ x, x ∈ l1 ∨ x ∈ l2 → x.ident ≠ e.ident := by
  obtain ⟨l1, l2, rfl⟩ := List.append_of_mem he
  refine ⟨l1, l2, rfl, fun x hx hi => ?_⟩
  rw [List.map_append, List.map_cons, List.nodup_middle, ← List.map_append, List.nodup_cons] at hnodup
  exact hnodup.1 (List.mem_map.mpr ⟨x, List.mem_append.mpr hx, hi⟩)

section
variable {l : List Entry} {c : Channel} {e : Entry}

/-- A channel that the entry `e` of the pass holds, released by it, about that step. -/
theorem fold_held (hnodup : (l.map Entry.ident).Nodup) (he : e ∈ l) (hr : w.releases e = true) (hheld : c.state = .held .calendar)
    (hby : c.heldBy = some e.ident) : ∃ d, c.SameButClaim d ∧ (d.released e.ident start now).SameButClaim (l.foldl (w.onChannel start now) c) := by
  obtain ⟨l1, l2, rfl, hne⟩ := split_entry hnodup he
  rw [List.foldl_append, List.foldl_cons]
  have hbefore : c.SameButClaim (l1.foldl (w.onChannel start now) c) := fold_unheld l1 fun x hx _ hc => by
    rw [hby] at hc
    exact hne x (.inl hx) (Option.some.inj hc.2).symm
  generalize l1.foldl (w.onChannel start now) c = c1 at hbefore
  have hreached : c.SameButClaim (w.onArbiter c1 e) := hbefore.trans (by rw [onArbiter_same (w := w) c1 e]; rfl)
  have hstate : (w.onArbiter c1 e).state = .held .calendar := by rw [hreached]; exact hheld
  have hname : (w.onArbiter c1 e).heldBy = some e.ident := by rw [hreached]; exact hby
  have hstep : w.onChannel start now c1 e = (w.onArbiter c1 e).released e.ident start now := if_pos hr
  rw [hstep]
  refine ⟨_, hreached, fold_unheld l2 fun x hx _ hc => ?_⟩
  obtain ⟨hs, hb⟩ := hc
  by_cases hlen : (w.onArbiter c1 e).history.length < 4
  · rw [Channel.released_resumes hstate hname hlen] at hs
    exact ChannelState.noConfusion ((Channel.moved_state .resuming _).symm.trans hs)
  · rw [Channel.released_defers hstate hname (not_lt.mp hlen)] at hb
    cases hb

/-- A released channel with room in its history is RESUMING (R159). -/
theorem fold_resumes (hnodup : (l.map Entry.ident).Nodup) (he : e ∈ l) (hr : w.releases e = true) (hback : c.ComesBack e.ident) :
    (l.foldl (w.onChannel start now) c).state = .resuming ∧ (l.foldl (w.onChannel start now) c).history = c.history ++ [now] ∧
      (l.foldl (w.onChannel start now) c).resumeStart = some start := by
  obtain ⟨hheld, hby, hlen⟩ := hback
  obtain ⟨d, hd, hlast⟩ := fold_held (start := start) (now := now) hnodup he hr hheld hby
  rw [Channel.released_resumes (by rw [hd]; exact hheld) (by rw [hd]; exact hby) (by rw [hd]; exact hlen)] at hlast
  rw [hlast]
  refine ⟨Channel.moved_state _ _, ?_, rfl⟩
  rw [hd]
  rfl

/-- A released channel without room in its history has its resume deferred (R159). -/
theorem fold_defers (hnodup : (l.map Entry.ident).Nodup) (he : e ∈ l) (hr : w.releases e = true) (hheld : c.state = .held .calendar)
    (hby : c.heldBy = some e.ident) (hlen : 4 ≤ c.history.length) : (l.foldl (w.onChannel start now) c).state = c.state ∧
      (l.foldl (w.onChannel start now) c).heldBy = none ∧ (l.foldl (w.onChannel start now) c).resumeDeferred = true ∧
      (l.foldl (w.onChannel start now) c).history = c.history := by
  obtain ⟨d, hd, hlast⟩ := fold_held (start := start) (now := now) hnodup he hr hheld hby
  rw [Channel.released_defers (by rw [hd]; exact hheld) (by rw [hd]; exact hby) (by rw [hd]; exact hlen)] at hlast
  rw [hlast, hd]
  exact ⟨rfl, rfl, rfl, rfl⟩

/-- A claim of an entry that the pass releases is cancelled (R161). -/
theorem fold_unclaims (hnodup : (l.map Entry.ident).Nodup) (he : e ∈ l) (hr : w.releases e = true) (hclaim : c.claim = some e.ident)
    (hunheld : ∀ x ∈ l, w.releases x = true → ¬(c.state = .held .calendar ∧ c.heldBy = some x.ident)) :
    Channel.SameButArbiter { c with claim := none, claimCancelled := true } (l.foldl (w.onChannel start now) c) := by
  obtain ⟨l1, l2, rfl, hne⟩ := split_entry hnodup he
  rw [List.foldl_append, List.foldl_cons]
  have hbefore : c.SameButArbiter (l1.foldl (w.onChannel start now) c) := fold_unnamed l1 fun x hx hrx =>
    ⟨hunheld x (by simp [hx]) hrx, fun hc => hne x (.inl hx) (Option.some.inj (hc.symm.trans hclaim))⟩
  generalize l1.foldl (w.onChannel start now) c = c1 at hbefore
  have hreached : c.SameButArbiter (w.onArbiter c1 e) := hbefore.trans (onArbiter_same c1 e)
  have hstep : w.onChannel start now c1 e = (w.onArbiter c1 e).released e.ident start now := if_pos hr
  rw [hstep, Channel.released_unclaims (by rw [hreached]; exact hunheld e (by simp) hr) (by rw [hreached]; exact hclaim)]
  have hmid : Channel.SameButArbiter { c with claim := none, claimCancelled := true }
      { w.onArbiter c1 e with claim := none, claimCancelled := true } := by
    rw [hreached]
    rfl
  refine hmid.trans (fold_unnamed l2 fun x hx hrx => ⟨?_, nofun⟩)
  rw [hreached]
  exact hunheld x (by simp [hx]) hrx

/-! ### What a pass does to an arbiter record -/

theorem onChannel_arbiter (c : Channel) (e : Entry) : (w.onChannel start now c e).arbiter =
    c.arbiter.keep fun i => !(w.leaves e && decide (e.ident = i)) := by
  have hforgot : (w.onArbiter c e).arbiter = c.arbiter.keep fun i => !(w.leaves e && decide (e.ident = i)) := by
    unfold onArbiter
    by_cases hleaves : w.leaves e = true
    · rw [if_pos hleaves]
      change c.arbiter.keep (fun i => decide (i ≠ e.ident)) = _
      refine congrArg (fun p : Nat → Bool => c.arbiter.keep p) (funext fun i => ?_)
      rw [hleaves, Bool.true_and, ← decide_not]
      exact decide_eq_decide.mpr ⟨fun h k => h k.symm, fun h k => h k.symm⟩
    · rw [if_neg hleaves, Bool.eq_false_iff.mpr hleaves]
      exact (Arbiter.keep_all c.arbiter).symm
  unfold onChannel
  split
  · rw [released_arbiter, hforgot]
  · exact hforgot

/-- The idents that leave the ring in the pass leave the arbiter record (R62, R112). -/
theorem fold_arbiter (l : List Entry) (c : Channel) : (l.foldl (w.onChannel start now) c).arbiter =
    c.arbiter.keep fun i => decide (∀ e ∈ l, w.leaves e = true → e.ident ≠ i) := by
  induction l generalizing c with
  | nil => simpa using (Arbiter.keep_all c.arbiter).symm
  | cons e l ih =>
    rw [List.foldl_cons, ih, onChannel_arbiter, Arbiter.keep_keep]
    refine congrArg (fun p : Nat → Bool => c.arbiter.keep p) (funext fun i => ?_)
    simp

end

end Sweep

end Sys2Proof.Machine
end

section
/-! The boundary pass as a table: what it does with an entry, and that its four moves do it (R64 to R71). -/

namespace Sys2Proof.Machine

/-! ### The table of the boundary pass -/

/-- The entry opens its window at this boundary (R65). -/
def Entry.opens (now : Nat) (e : Entry) : Bool := decide (e.state = .scheduled ∧ e.announceStart ≤ now)

/-- The entry takes effect at this boundary (R68). -/
def Entry.takes (now : Nat) (e : Entry) : Bool :=
  decide ((e.opens now = true ∨ e.state = .announcing ∨ e.state = .committed) ∧ e.instant = now)

/-- A LEAP entry whose leap was not executed (R69). -/
def Entry.missed (e : Entry) : Bool := decide ((e.kind = .leapInsert ∨ e.kind = .leapDelete) ∧ e.leapExecuted = false)

/-- The entry's outage ends at this boundary (R71). -/
def Entry.ends (now : Nat) (e : Entry) : Bool :=
  decide ((e.state = .inEffect ∨ (e.takes now = true ∧ e.kind = .interruption)) ∧ e.outageEnd = now)

/-- The causes the entry's moves raise (R196). -/
def Entry.passCauses (now : Nat) (e : Entry) : BitVec 13 :=
  (if e.opens now = true then 0x0001 else 0) ||| (if e.takes now = true then (if e.missed = true then 0x0008 else 0x0002) else 0) |||
    (if e.ends now = true then 0x0004 else 0)

/-- The boundary pass. -/
def passSweep (now : Nat) : Sweep where
  becomes := Entry.passed now
  applies := Entry.takes now
  leaves := Entry.takes now
  releases := Entry.ends now
  causes := Entry.passCauses now

/-! ### The moves, but for the calendar -/

section
variable {s : State} {e : Entry} {now : Nat}

theorem finishEntry_present (h : e.ident ∈ s.cal.ring) (o : EntryOutcome) : s.finishEntry e o =
    { s with cal := (s.finishEntry e o).cal, chans := s.chans.map (Channel.forgets e.ident) } := by
  have hleft : s.leaveRing e.ident = { s with cal := (s.leaveRing e.ident).cal, chans := s.chans.map (Channel.forgets e.ident) } := by
    rw [leaveRing_present h]
    rfl
  unfold State.finishEntry
  dsimp only
  split
  · rw [removeEntry_absent (by rw [State.modifyEntry_cal, leaveRing_cal]; simp), hleft]
    rfl
  · rw [hleft]
    rfl

theorem joinRing_absent {i : Nat} (h : i ∉ s.cal.ring) :
    s.joinRing i = ({ s with cal := { s.cal with ring := s.cal.ring ++ [i] } } : State).raise .changeAnnouncing := if_neg h

theorem openEntry_eq (hring : e.opens now = true → e.ident ∉ s.cal.ring) : s.openEntry now e = { s with
    cal := (s.openEntry now e).cal, att := { s.att with flags := s.att.flags ||| if e.opens now = true then 0x0001 else 0 } } := by
  unfold State.openEntry
  by_cases h : e.state = .scheduled ∧ e.announceStart ≤ now
  · have hopens : e.opens now = true := decide_eq_true h
    have habsent : ∀ f, e.ident ∉ (s.modifyEntry e.ident f).cal.ring := fun _ => hring hopens
    rw [if_pos h, hopens, joinRing_absent (habsent _)]
    rfl
  · have hopens : e.opens now = false := decide_eq_false h
    rw [if_neg h, hopens]
    simp

theorem commitEntry_eq : s.commitEntry now e = { s with cal := (s.commitEntry now e).cal } := by
  unfold State.commitEntry
  split <;> rfl

theorem Kind.noEffect {k : Kind} (p : Payload) (hp : p.kind = k) (hk : k ≠ .offsetChange) (s : State) : s.applyPayload p = s := by
  cases p with
  | offsetChange i o f => exact absurd hp.symm hk
  | leapInsert => rfl
  | leapDelete => rfl
  | interruption c d => rfl
  | advisory c n => rfl

/-- An entry of the ring takes effect: its payload, the arbiters without it, and the cause by its kind (R68 to R70). -/
theorem effectEntry_takes (hring : e.ident ∈ s.cal.ring) (h : e.state.inRing = true ∧ e.instant = now) : s.effectEntry now e = { s with
    cal := (s.effectEntry now e).cal, profiles := (s.applyPayload e.payload).profiles, chans := s.chans.map (Channel.forgets e.ident)
    att := { s.att with flags := s.att.flags ||| if e.missed = true then 0x0008 else 0x0002 } } := by
  have hfinish := finishEntry_present hring
  have hraised : ∀ (o : EntryOutcome) (c : Cause), (s.finishEntry e o).raise c = { s with
      cal := ((s.finishEntry e o).raise c).cal, chans := s.chans.map (Channel.forgets e.ident)
      att := { s.att with flags := s.att.flags ||| c.weight } } := fun o c => by
    rw [hfinish o]
    rfl
  have hplain : e.kind ≠ .offsetChange → s.applyPayload e.payload = s := fun hk => Kind.noEffect e.payload rfl hk s
  unfold State.effectEntry
  rw [if_pos h]
  cases hk : e.kind with
  | offsetChange =>
    have hmissed : e.missed = false := decide_eq_false (by simp [hk])
    have happlied := finishEntry_present (s := s.applyPayload e.payload) (e := e) (by rw [applyPayload_cal]; exact hring) .onTime
    dsimp only
    rw [happlied, hmissed, applyPayload_frame]
    rfl
  | advisory =>
    have hmissed : e.missed = false := decide_eq_false (by simp [hk])
    rw [hplain (by simp [hk]), hmissed]
    exact hraised .onTime .changeEffected
  | leapInsert =>
    have hmissed : e.missed = !e.leapExecuted := by simp [Entry.missed, hk]
    rw [hplain (by simp [hk]), hmissed]
    cases e.leapExecuted with
    | false => exact hraised .overtaken .changeOvertaken
    | true => exact hraised .onTime .changeEffected
  | leapDelete =>
    have hmissed : e.missed = !e.leapExecuted := by simp [Entry.missed, hk]
    rw [hplain (by simp [hk]), hmissed]
    cases e.leapExecuted with
    | false => exact hraised .overtaken .changeOvertaken
    | true => exact hraised .onTime .changeEffected
  | interruption =>
    have hmissed : e.missed = false := decide_eq_false (by simp [hk])
    dsimp only
    rw [hplain (by simp [hk]), hmissed, leaveRing_present hring]
    rfl

end


/-! ### The end of an outage -/

section
variable {s : State} {i : Nat}

theorem releaseChannel_event {n : Fin 4} (h : (s.chan n).ComesBack i) : (s.releaseChannel i n).att.flags.getLsbD 5 = true := by
  obtain ⟨hheld, hnamed, hlen⟩ := h
  unfold State.releaseChannel
  dsimp only
  rw [if_pos ⟨hheld, hnamed⟩, if_neg (by rw [Channel.not_spent_iff.mpr hlen]; exact Bool.false_ne_true)]
  change ((s.startResuming n).att.flags ||| 0x0020).getLsbD 5 = true
  rw [BitVec.getLsbD_or]
  simp

theorem releaseChannel_other {n m : Fin 4} (h : m ≠ n) (i : Nat) (s : State) : (s.releaseChannel i n).chan m = s.chan m := by
  rw [releaseChannel_chan, if_neg h]

/-- A cause that an operation of each channel in turn raises for a channel as it found it, and none takes back. -/
theorem eachChannel_event {f : Fin 4 → State → State} {k : Nat} {P : Channel → Prop}
    (hstands : ∀ m (s : State), s.att.flags.getLsbD k = true → (f m s).att.flags.getLsbD k = true)
    (hother : ∀ m (n : Fin 4) (s : State), n ≠ m → (f m s).chan n = s.chan n)
    (hevent : ∀ n (s : State), P (s.chan n) → (f n s).att.flags.getLsbD k = true) {n : Fin 4} (h : P (s.chan n)) :
    (s.eachChannel f).att.flags.getLsbD k = true := by
  unfold State.eachChannel
  match n with
  | 0 => exact hstands 3 _ (hstands 2 _ (hstands 1 _ (hevent 0 s h)))
  | 1 =>
    refine hstands 3 _ (hstands 2 _ (hevent 1 _ ?_))
    rw [hother 0 1 s (by decide)]
    exact h
  | 2 =>
    refine hstands 3 _ (hevent 2 _ ?_)
    rw [hother 1 2 _ (by decide), hother 0 2 s (by decide)]
    exact h
  | 3 =>
    refine hevent 3 _ ?_
    rw [hother 2 3 _ (by decide), hother 1 3 _ (by decide), hother 0 3 s (by decide)]
    exact h

/-- CHANNEL EVENT at a release that a channel comes back by (R159). -/
theorem release_event {n : Fin 4} (h : (s.chan n).ComesBack i) : (s.release i).att.flags.getLsbD 5 = true :=
  eachChannel_event (P := fun c => c.ComesBack i) (fun m s hs => (releaseChannel_causes i m s).stands hs)
    (fun _ _ s hm => releaseChannel_other hm i s) (fun _ _ h => releaseChannel_event h) h

/-- A finished entry, out of the ring before, whose release is handed on with a cause (R71, R74). -/
theorem finishEntry_release {e : Entry} (hring : e.ident ∉ s.cal.ring) (o : EntryOutcome) (c : Cause) :
    (((s.finishEntry e o).release e.ident).raise c).profiles = s.profiles ∧
    (∀ n, (((s.finishEntry e o).release e.ident).raise c).chan n = (s.chan n).released e.ident (s.resumeMoment n) s.ret.runSeconds) ∧
    (((s.finishEntry e o).release e.ident).raise c).att.flags ||| 0x0060 = s.att.flags ||| c.weight ||| 0x0060 ∧
    s.Raises (c.weight ||| 0x0060) (((s.finishEntry e o).release e.ident).raise c) ∧
    (∀ n, (s.chan n).ComesBack e.ident → (((s.finishEntry e o).release e.ident).raise c).att.flags.getLsbD 5 = true) := by
  obtain ⟨t, ht⟩ : ∃ t, s.finishEntry e o = t := ⟨_, rfl⟩
  have hframe := finishEntry_absent hring o
  rw [ht] at hframe ⊢
  have hatt : t.att = s.att := by rw [hframe]
  have hchan : ∀ n, t.chan n = s.chan n := fun n => by rw [hframe]; rfl
  have hcauses := release_causes e.ident t
  refine ⟨?_, fun n => ?_, ?_, ?_, fun n hback => ?_⟩
  · rw [State.raise_profiles, release_frame, hframe]
  · rw [State.chan_raise, release_chan, hchan, resumeMoment_congr (s := s) (by rw [hframe]) (by rw [hframe]), hframe]
  · change (t.release e.ident).att.flags ||| c.weight ||| 0x0060 = _
    rw [BitVec.or_assoc, BitVec.or_comm c.weight, ← BitVec.or_assoc, hcauses.within, hatt, BitVec.or_assoc, BitVec.or_comm (0x0060 : BitVec 13),
      ← BitVec.or_assoc]
  · refine ((hcauses.after hatt).mono ?_).raise ?_
    · rw [BitVec.or_comm c.weight, ← BitVec.or_assoc, BitVec.or_self]
    · rw [← BitVec.or_assoc, BitVec.or_self]
  · have hevent := release_event (s := t) (i := e.ident) (n := n) (by rw [hchan]; exact hback)
    change ((t.release e.ident).att.flags ||| c.weight).getLsbD 5 = true
    rw [BitVec.getLsbD_or, hevent, Bool.true_or]

end


/-! ### The moves of one entry -/

/-- The entry as the boundary's window opening and commit point leave it. -/
def Entry.due (now : Nat) (e : Entry) : Entry := (e.opened now).committing now

section
variable {now : Nat} {e : Entry}

theorem Entry.opened_frame (now : Nat) (e : Entry) : e.opened now = { e with state := (e.opened now).state, locked := (e.opened now).locked } := by
  unfold Entry.opened; split <;> rfl

theorem Entry.committing_frame (now : Nat) (e : Entry) : e.committing now = { e with state := (e.committing now).state } := by
  unfold Entry.committing; split <;> rfl

theorem Entry.due_frame (now : Nat) (e : Entry) : e.due now = { e with state := (e.due now).state, locked := (e.due now).locked } := by
  unfold Entry.due
  rw [Entry.committing_frame, Entry.opened_frame]

/-- The state after window opening and commit point, by their conditions (R65, R66). -/
theorem Entry.due_state (now : Nat) (e : Entry) : (e.due now).state =
    if (e.opens now = true ∨ e.state = .announcing) ∧ e.commitPoint ≤ now then .committed else if e.opens now = true then .announcing else e.state := by
  have hcommit : (e.opened now).commitPoint = e.commitPoint := by rw [Entry.opened_frame]; rfl
  unfold Entry.due Entry.committing
  rw [hcommit]
  unfold Entry.opened
  by_cases ho : e.state = .scheduled ∧ e.announceStart ≤ now
  · have hopens : e.opens now = true := decide_eq_true ho
    simp only [if_pos ho, hopens, true_or, true_and, if_true]
    by_cases hc : e.commitPoint ≤ now <;> simp [hc]
  · have hopens : e.opens now = false := decide_eq_false ho
    simp only [if_neg ho, hopens, Bool.false_eq_true, false_or, if_false]
    split <;> rfl

theorem Entry.due_locked (now : Nat) (e : Entry) : (e.due now).locked = (e.locked || e.opens now) := by
  have hkept : (e.due now).locked = (e.opened now).locked := by unfold Entry.due; rw [Entry.committing_frame]
  rw [hkept]
  unfold Entry.opened
  by_cases ho : e.state = .scheduled ∧ e.announceStart ≤ now
  · rw [if_pos ho, show e.opens now = true from decide_eq_true ho, Bool.or_true]
  · rw [if_neg ho, show e.opens now = false from decide_eq_false ho, Bool.or_false]

theorem Entry.due_inRing : (e.due now).state.inRing = true ↔ e.opens now = true ∨ e.state = .announcing ∨ e.state = .committed := by
  rw [Entry.due_state]
  cases ho : e.opens now with
  | true => by_cases hc : e.commitPoint ≤ now <;> simp [hc, EntryState.inRing]
  | false =>
    by_cases hc : e.state = .announcing ∧ e.commitPoint ≤ now
    · simp [hc, EntryState.inRing]
    · simp only [Bool.false_eq_true, false_or, if_neg hc, if_false]
      cases e.state <;> simp [EntryState.inRing]

theorem Entry.due_takes : ((e.due now).state.inRing = true ∧ (e.due now).instant = now) ↔ e.takes now = true := by
  have hinstant : (e.due now).instant = e.instant := by rw [Entry.due_frame]
  rw [Entry.due_inRing, hinstant]
  exact (decide_eq_true_iff).symm

theorem Entry.due_inEffect : (e.due now).state = .inEffect ↔ e.state = .inEffect := by
  rw [Entry.due_state]
  have hscheduled : e.opens now = true → e.state = .scheduled := fun h => (of_decide_eq_true h).1
  cases ho : e.opens now with
  | true =>
    have hs := hscheduled ho
    by_cases hc : e.commitPoint ≤ now <;> simp [hc, hs]
  | false =>
    by_cases hc : e.state = .announcing ∧ e.commitPoint ≤ now
    · simp [hc]
    · simp only [Bool.false_eq_true, false_or, if_neg hc, if_false]

theorem Entry.takes_not_inEffect (h : e.takes now = true) : e.state ≠ .inEffect := fun hs => by
  have hring := (Entry.due_takes.mpr h).1
  rw [Entry.due_inEffect.mpr hs] at hring
  cases hring

/-- What the boundary's effect makes of the entry has an outage that ends there exactly where the entry's ends. -/
theorem Entry.ends_iff : e.ends now = true ↔ ∃ y ∈ (e.due now).effected now, y.state = .inEffect ∧ y.outageEnd = now := by
  have hend : (e.due now).outageEnd = e.outageEnd := by rw [Entry.due_frame]; rfl
  have hkind : (e.due now).kind = e.kind := by rw [Entry.due_frame]; rfl
  rw [Entry.ends, decide_eq_true_iff]
  unfold Entry.effected
  rw [hkind]
  by_cases ht : e.takes now = true
  · have hin := Entry.takes_not_inEffect ht
    rw [if_pos (Entry.due_takes.mpr ht)]
    by_cases hk : e.kind = .interruption
    · rw [if_pos hk]
      constructor
      · exact fun h => ⟨_, rfl, rfl, hend.trans h.2⟩
      · rintro ⟨y, hy, -, hout⟩
        cases hy
        exact ⟨.inr ⟨ht, hk⟩, hend.symm.trans hout⟩
    · rw [if_neg hk]
      constructor
      · rintro ⟨hs | ⟨-, hk'⟩, -⟩
        · exact absurd hs hin
        · exact absurd hk' hk
      · rintro ⟨y, hy, hs, -⟩
        rw [Entry.finished_out hy] at hs
        cases hs
  · rw [if_neg fun h => ht (Entry.due_takes.mp h)]
    constructor
    · rintro ⟨hs | ⟨ht', -⟩, hout⟩
      · exact ⟨_, rfl, Entry.due_inEffect.mpr hs, hend.trans hout⟩
      · exact absurd ht' ht
    · rintro ⟨y, hy, hs, hout⟩
      cases hy
      exact ⟨.inl (Entry.due_inEffect.mp hs), hend.symm.trans hout⟩

end


/-! ### The step of the table -/

section
variable {s : State} {e : Entry} {now : Nat}

/-- A state of the pass before the entry's outage end: what its moves did but for the calendar. -/
structure PassReached (now : Nat) (e : Entry) (s t : State) : Prop where
  profiles : ∀ k, t.profiles.get k = (passSweep now).onProfile k (s.profiles.get k) e
  chan : ∀ n, t.chan n = (passSweep now).onArbiter (s.chan n) e
  att : t.att = { s.att with flags := s.att.flags ||| ((if e.opens now = true then 0x0001 else 0) |||
    (if e.takes now = true then (if e.missed = true then 0x0008 else 0x0002) else 0)) }
  tb : t.tb = s.tb
  ret : t.ret = s.ret

/-- Window opening and commit point (R65, R66). -/
theorem openEntry_commitEntry (h : s.cal.sound) (he : e ∈ s.cal.entries) (now : Nat) :
    (s.openEntry now e).commitEntry now (e.opened now) = { s with
      cal := s.cal.put e.ident (some (e.due now)), att := { s.att with flags := s.att.flags ||| if e.opens now = true then 0x0001 else 0 } } := by
  have hopened := Entry.opened_carries now e
  have habsent : e.opens now = true → e.ident ∉ s.cal.ring := fun ho hi => by
    have hring := (h.ident_mem_ring he).mp hi
    rw [(of_decide_eq_true ho).1] at hring
    cases hring
  have hcal := openEntry_cal h he now
  have hsound : (s.openEntry now e).cal.sound := by rw [hcal]; exact h.put he fun x hx => by cases hx; exact ⟨hopened.ident, hopened.instant⟩
  have hmem : e.opened now ∈ (s.openEntry now e).cal.entries := by rw [hcal, Calendar.mem_put]; exact .inr ⟨rfl, e, he, rfl⟩
  have hcommit := commitEntry_cal hsound hmem now
  rw [hcal, hopened.ident] at hcommit
  have hput : (s.cal.put e.ident (some (e.opened now))).put e.ident (some ((e.opened now).committing now)) =
      s.cal.put e.ident (some (e.due now)) := Calendar.put_put hopened.ident (by
    rintro ⟨y, hy, hr⟩
    cases hy
    exact Entry.committing_inRing hr)
  rw [commitEntry_eq, hcommit, hput, openEntry_eq habsent]

/-- The pass of one entry, up to the end of an outage (R64). -/
theorem passEntry_reached (h : s.cal.sound) (he : e ∈ s.cal.entries) (now : Nat) : ∃ t : State, PassReached now e s t ∧
    t.cal = s.cal.put e.ident ((e.due now).effected now) ∧ s.passEntry now e.ident = t.onEntry e.ident (State.endOutage now) := by
  have hdue := (Entry.opened_carries now e).trans (Entry.committing_carries now _)
  have hident : (e.due now).ident = e.ident := hdue.ident
  have hinstant : (e.due now).instant = e.instant := hdue.instant
  have hopen : s.onEntry e.ident (State.openEntry now) = s.openEntry now e := by
    unfold State.onEntry
    rw [findEntry_ident h.holds.idents he]
  have hopenedSound : (s.openEntry now e).cal.sound := by
    rw [openEntry_cal h he]
    exact h.put he fun x hx => by cases hx; exact ⟨(Entry.opened_carries now e).ident, (Entry.opened_carries now e).instant⟩
  have hopened : e.opened now ∈ (s.openEntry now e).cal.entries := by rw [openEntry_cal h he, Calendar.mem_put]; exact .inr ⟨rfl, e, he, rfl⟩
  have hcommit : (s.openEntry now e).onEntry e.ident (State.commitEntry now) = (s.openEntry now e).commitEntry now (e.opened now) := by
    unfold State.onEntry
    rw [← (Entry.opened_carries now e).ident, findEntry_ident hopenedSound.holds.idents hopened]
  obtain ⟨u, hu⟩ : ∃ u, (s.openEntry now e).commitEntry now (e.opened now) = u := ⟨_, rfl⟩
  have hueq := openEntry_commitEntry h he now
  rw [hu] at hueq
  have hucal : u.cal = s.cal.put e.ident (some (e.due now)) := by rw [hueq]
  have husound : u.cal.sound := by rw [hucal]; exact h.put he fun x hx => by cases hx; exact ⟨hident, hinstant⟩
  have humem : e.due now ∈ u.cal.entries := by rw [hucal, Calendar.mem_put]; exact .inr ⟨rfl, e, he, rfl⟩
  have heffect : u.onEntry e.ident (State.effectEntry now) = u.effectEntry now (e.due now) := by
    unfold State.onEntry
    rw [← hident, findEntry_ident husound.holds.idents humem]
  refine ⟨u.effectEntry now (e.due now), ?_, ?_, ?_⟩
  · by_cases ht : e.takes now = true
    · have hring : (e.due now).ident ∈ u.cal.ring := (husound.ident_mem_ring humem).mpr (Entry.due_takes.mpr ht).1
      have hpayload : (e.due now).payload = e.payload := hdue.payload
      have hmissed : (e.due now).missed = e.missed := by rw [Entry.due_frame]; rfl
      rw [effectEntry_takes hring (Entry.due_takes.mpr ht), hmissed, hpayload, hident]
      refine ⟨fun k => ?_, fun n => ?_, ?_, ?_, ?_⟩
      · dsimp only
        rw [applyPayload_get, hueq]
        exact (if_pos ht).symm
      · refine (Four.get_map _ _ _).trans ?_
        rw [hueq]
        exact (if_pos ht).symm
      · rw [if_pos ht, hueq, ← BitVec.or_assoc]
      · rw [hueq]
      · rw [hueq]
    · have hkept : u.effectEntry now (e.due now) = u := if_neg fun hno => ht (Entry.due_takes.mp hno)
      rw [hkept, hueq]
      refine ⟨fun k => (if_neg ht).symm, fun n => (if_neg ht).symm, ?_, rfl, rfl⟩
      rw [if_neg ht, show ∀ x : BitVec 13, x ||| 0 = x from fun x => BitVec.or_zero]
  · rw [effectEntry_cal husound humem, hucal, hident]
    exact Calendar.put_put hident fun hr => Entry.effected_inRing hr
  · unfold State.passEntry
    rw [hopen, hcommit, hu, heffect]

end


section
variable {s : State} {e : Entry}

/-- The four moves of an entry at a minute boundary are the table's step (R64). -/
theorem passEntry_step (h : s.cal.sound) (he : e ∈ s.cal.entries) (now : Nat) : (passSweep now).Step e s (s.passEntry now e.ident) := by
  obtain ⟨t, ⟨hprofiles, hchan, hatt, htb, hret⟩, htcal, hpass⟩ := passEntry_reached h he now
  have hpassed := passEntry_cal h he now
  have hdue := (Entry.opened_carries now e).trans (Entry.committing_carries now _)
  have hsound : t.cal.sound := by
    rw [htcal]
    refine h.put he fun x hx => ?_
    have hx := hdue.trans (Entry.effected_carries hx)
    exact ⟨hx.ident, hx.instant⟩
  have hstands : ∀ (x : BitVec 13) (k : Nat), s.att.flags.getLsbD k = true → (s.att.flags ||| x).getLsbD k = true := fun x k hk => by
    rw [BitVec.getLsbD_or, hk, Bool.true_or]
  by_cases hends : e.ends now = true
  · obtain ⟨y, hy, hstate, hout⟩ := Entry.ends_iff.mp hends
    have hyident : y.ident = e.ident := (hdue.trans (Entry.effected_carries hy)).ident
    have hmem : y ∈ t.cal.entries := by rw [htcal, Calendar.mem_put]; exact .inr ⟨hy, e, he, rfl⟩
    have habsent : y.ident ∉ t.cal.ring := fun hi => by
      have hring := (hsound.ident_mem_ring hmem).mp hi
      rw [hstate] at hring
      cases hring
    have hend : t.onEntry e.ident (State.endOutage now) =
        ((t.finishEntry y (if y.late then .overtaken else .onTime)).release e.ident).raise .interruptionEnded := by
      unfold State.onEntry
      rw [← hyident, findEntry_ident hsound.holds.idents hmem]
      exact if_pos ⟨hstate, hout⟩
    obtain ⟨rprofiles, rchan, rraised, rraises, revent⟩ := finishEntry_release habsent (if y.late then .overtaken else .onTime) .interruptionEnded
    have hcalendar := passEntry_calendarOnly now e.ident s
    rw [hpass, hend] at hpassed hcalendar ⊢
    rw [hyident] at rprofiles rchan rraised rraises revent
    refine ⟨hpassed, fun k => by rw [rprofiles]; exact hprofiles k, fun n => ?_, ?_, fun k hk => rraises.stands (by rw [hatt]; exact hstands _ k hk),
      fun _ n hback => revent n ?_, by rw [hcalendar], by rw [hcalendar]⟩
    · rw [rchan, hchan, resumeMoment_congr htb hret, hret]
      exact (if_pos hends).symm
    · rw [rraised, hatt]
      change _ = s.att.flags ||| e.passCauses now ||| 0x0060
      unfold Entry.passCauses
      rw [if_pos hends]
      exact congrArg (fun x : BitVec 13 => x ||| 0x0060) (BitVec.or_assoc _ _ _)
    · obtain ⟨hheld, hnamed, hlen⟩ := hback
      rw [hchan, Sweep.onArbiter_frame]
      exact ⟨hheld, hnamed, hlen⟩
  · have hend : t.onEntry e.ident (State.endOutage now) = t := by
      unfold State.onEntry
      split
      · next y hy =>
        obtain ⟨hmem, hident⟩ := findEntry_mem hy
        refine if_neg fun hyends => hends (Entry.ends_iff.mpr ⟨y, ?_, hyends⟩)
        rw [htcal, Calendar.mem_put] at hmem
        rcases hmem with ⟨-, hne⟩ | ⟨heffected, -⟩
        · exact absurd hident hne
        · exact heffected
      · rfl
    rw [hpass, hend] at hpassed ⊢
    refine ⟨hpassed, hprofiles, fun n => (hchan n).trans (if_neg hends).symm, ?_, fun k hk => by rw [hatt]; exact hstands _ k hk,
      fun hr => absurd hr hends, htb, hret⟩
    rw [hatt]
    change _ = s.att.flags ||| e.passCauses now ||| 0x0060
    unfold Entry.passCauses
    rw [if_neg hends, show ∀ x : BitVec 13, x ||| 0 = x from fun x => BitVec.or_zero]

end

/-! ### The withdrawn entries -/

/-- Every WITHDRAWN entry is removed, and with it nothing else: it is out of the ring (R71). -/
theorem removeWithdrawn_eq {s : State} (h : s.cal.sound) : s.removeWithdrawn =
    { s with cal := { s.cal with entries := s.cal.entries.filter fun e => decide (e.state ≠ .withdrawn) } } := by
  have hremoves : ∀ (l : List Entry) (t : State), (∀ e ∈ l, e.ident ∉ t.cal.ring) → l.foldl (fun t e => t.removeEntry e.ident) t =
      { t with cal := { t.cal with entries := t.cal.entries.filter fun x => decide (∀ e ∈ l, x.ident ≠ e.ident) } } := by
    intro l
    induction l with
    | nil => intro t _; simp
    | cons e l ih =>
      intro t hout
      rw [List.foldl_cons, removeEntry_absent (hout e List.mem_cons_self)]
      have hrest := ih { t with cal := { t.cal with entries := t.cal.entries.filter fun x => decide (x.ident ≠ e.ident) } }
        fun x hx => hout x (List.mem_cons_of_mem _ hx)
      refine hrest.trans ?_
      simp only [List.filter_filter]
      refine congrArg (fun es => ({ t with cal := { t.cal with entries := es } } : State)) (List.filter_congr fun x _ => ?_)
      simp [Bool.and_comm]
  have hwithdrawn : ∀ e ∈ s.cal.entries.filter fun e => e.state == .withdrawn, e ∈ s.cal.entries ∧ e.state = .withdrawn := fun e he => by
    simpa using List.mem_filter.mp he
  unfold State.removeWithdrawn
  rw [hremoves]
  · refine congrArg (fun es => ({ s with cal := { s.cal with entries := es } } : State)) (List.filter_congr fun x hx => decide_eq_decide.mpr ?_)
    constructor
    · exact fun hall hw => hall x (List.mem_filter.mpr ⟨hx, by simp [hw]⟩) rfl
    · intro hx' e he hi
      obtain ⟨hmem, hstate⟩ := hwithdrawn e he
      rw [← entry_eq_of_ident h.holds.idents hx hmem hi] at hstate
      exact hx' hstate
  · intro e he hi
    obtain ⟨hmem, hstate⟩ := hwithdrawn e he
    have hring := (h.ident_mem_ring hmem).mp hi
    rw [hstate] at hring
    cases hring

end Sys2Proof.Machine
end

section
/-! The boundary pass of a sound calendar (R43, R64 to R71). -/

namespace Sys2Proof.Machine

/-! ### What becomes of an entry -/

section
variable {now : Nat} {e : Entry}

theorem Entry.effectOutcome_eq (e : Entry) (hk : e.kind ≠ .interruption) : e.effectOutcome = if e.missed = true then .overtaken else .onTime := by
  unfold Entry.effectOutcome Entry.missed
  cases hkind : e.kind with
  | interruption => exact absurd hkind hk
  | offsetChange => simp
  | advisory => simp
  | leapInsert => cases e.leapExecuted <;> simp
  | leapDelete => cases e.leapExecuted <;> simp

theorem Entry.finished_ended (o : EntryOutcome) (e : Entry) : (e.finished o).bind (Entry.outageEnded now) = e.finished o := by
  unfold Entry.finished
  split
  · rfl
  · rw [Option.bind_some]
    refine if_neg ?_
    rintro ⟨h, -⟩
    cases h

theorem Entry.passed_due (e : Entry) : e.passed now = ((e.due now).effected now).bind (Entry.outageEnded now) := rfl

/-- An entry other than an INTERRUPTION takes effect (R68, R69). -/
theorem Entry.passed_effected (ht : e.takes now = true) (hk : e.kind ≠ .interruption) : e.passed now =
    if e.autoRetire = true then none
    else some { e with state := .done, locked := e.locked || e.opens now, outcome := some (if e.missed = true then .overtaken else .onTime) } := by
  have hkind : (e.due now).kind = e.kind := by rw [Entry.due_frame]; rfl
  have hmissed : (e.due now).missed = e.missed := by rw [Entry.due_frame]; rfl
  have heffected : (e.due now).effected now = (e.due now).finished (e.due now).effectOutcome := by
    unfold Entry.effected
    rw [if_pos (Entry.due_takes.mpr ht), hkind, if_neg hk]
  rw [Entry.passed_due, heffected, Entry.finished_ended, Entry.effectOutcome_eq _ (by rw [hkind]; exact hk), hmissed, Entry.due_frame,
    Entry.due_locked]
  rfl

/-- An INTERRUPTION takes effect (R70). -/
theorem Entry.effected_interruption (ht : e.takes now = true) (hk : e.kind = .interruption) :
    (e.due now).effected now = some { e with state := .inEffect, locked := true } := by
  have hkind : (e.due now).kind = e.kind := by rw [Entry.due_frame]; rfl
  unfold Entry.effected
  rw [if_pos (Entry.due_takes.mpr ht), hkind, if_pos hk, Entry.due_frame]

theorem Entry.effected_none (ht : e.takes now ≠ true) : (e.due now).effected now = some (e.due now) := if_neg fun h => ht (Entry.due_takes.mp h)

theorem Entry.passed_begun (ht : e.takes now = true) (hk : e.kind = .interruption) (hends : e.ends now ≠ true) :
    e.passed now = some { e with state := .inEffect, locked := true } := by
  rw [Entry.passed_due, Entry.effected_interruption ht hk]
  exact if_neg fun h => hends (decide_eq_true ⟨.inr ⟨ht, hk⟩, h.2⟩)

/-- An outage ends (R71). -/
theorem Entry.passed_ended (hends : e.ends now = true) (hno : ¬(e.takes now = true ∧ e.kind ≠ .interruption)) : e.passed now =
    if e.autoRetire = true then none
    else some { e with state := .done, locked := e.locked || e.takes now, outcome := some (if e.late = true then .overtaken else .onTime) } := by
  obtain ⟨hwhen, hout⟩ := of_decide_eq_true hends
  rw [Entry.passed_due]
  by_cases ht : e.takes now = true
  · have hk : e.kind = .interruption := by
      by_contra hk
      exact hno ⟨ht, hk⟩
    rw [Entry.effected_interruption ht hk, ht, Bool.or_true]
    exact if_pos ⟨rfl, hout⟩
  · have hstate : e.state = .inEffect := hwhen.resolve_right fun h => ht h.1
    have hopened : e.opened now = e := if_neg (by rw [hstate]; rintro ⟨h, -⟩; cases h)
    have hdue : e.due now = e := by
      unfold Entry.due
      rw [hopened]
      exact if_neg (by rw [hstate]; rintro ⟨h, -⟩; cases h)
    rw [Entry.effected_none ht, hdue, Bool.eq_false_iff.mpr ht, Bool.or_false]
    exact if_pos ⟨hstate, hout⟩

/-- Neither effect nor outage end: what is left is the window and the commit point (R65, R66). -/
theorem Entry.passed_rest (ht : e.takes now ≠ true) (hends : e.ends now ≠ true) : e.passed now = some { e with
    state := if (e.opens now = true ∨ e.state = .announcing) ∧ e.commitPoint ≤ now then .committed
      else if e.opens now = true then .announcing else e.state
    locked := e.locked || e.opens now } := by
  have hrest : (e.due now).outageEnded now = some (e.due now) := by
    refine if_neg fun h => hends (Entry.ends_iff.mpr ⟨e.due now, Entry.effected_none ht, h⟩)
  rw [Entry.passed_due, Entry.effected_none ht, Option.bind_some, hrest, Entry.due_frame, Entry.due_state, Entry.due_locked]

/-- The entries of the ring after the pass (R61). -/
theorem passSweep_rings : (passSweep now).rings e = true ↔ (e.opens now = true ∨ e.state = .announcing ∨ e.state = .committed) ∧ e.instant ≠ now := by
  have hany : (passSweep now).rings e = (e.passed now).any fun x => x.state.inRing := rfl
  have hgone : ∀ p : Prop, (e.takes now = true) → (False ↔ p ∧ e.instant ≠ now) := fun p ht =>
    ⟨False.elim, fun h => h.2 (of_decide_eq_true ht).2⟩
  rw [hany]
  by_cases ht : e.takes now = true
  · rw [← hgone _ ht]
    refine iff_of_false (fun hin => ?_) id
    obtain ⟨y, hy, hr⟩ := (Option.any_eq_true _ _).mp hin
    rw [Entry.passed_due] at hy
    obtain ⟨x, hx, hy⟩ := Option.bind_eq_some_iff.mp hy
    have hxr := Entry.outageEnded_inRing ⟨y, hy, hr⟩
    unfold Entry.effected at hx
    rw [if_pos (Entry.due_takes.mpr ht)] at hx
    split at hx
    · cases hx; cases hxr
    · rw [Entry.finished_out hx] at hxr; cases hxr
  · rw [Entry.passed_due, Entry.effected_none ht, Option.bind_some]
    have hrest : ((e.due now).outageEnded now).any (fun x => x.state.inRing) = (e.due now).state.inRing := by
      unfold Entry.outageEnded
      split
      · next h =>
        rw [h.1]
        refine Bool.eq_false_iff.mpr fun hin => ?_
        obtain ⟨y, hy, hr⟩ := (Option.any_eq_true _ _).mp hin
        rw [Entry.finished_out hy] at hr
        cases hr
      · rfl
    rw [hrest, Entry.due_inRing]
    exact ⟨fun h => ⟨h, fun hi => ht (decide_eq_true ⟨h, hi⟩)⟩, fun h => h.1⟩

/-! ### The causes -/

theorem Entry.passCauses_opens : (e.passCauses now).getLsbD 0 = e.opens now := by
  unfold Entry.passCauses
  cases e.opens now <;> cases e.takes now <;> cases e.missed <;> cases e.ends now <;> rfl

theorem Entry.passCauses_takes : (e.passCauses now).getLsbD 1 = (e.takes now && !e.missed) := by
  unfold Entry.passCauses
  cases e.opens now <;> cases e.takes now <;> cases e.missed <;> cases e.ends now <;> rfl

theorem Entry.passCauses_ends : (e.passCauses now).getLsbD 2 = e.ends now := by
  unfold Entry.passCauses
  cases e.opens now <;> cases e.takes now <;> cases e.missed <;> cases e.ends now <;> rfl

theorem Entry.passCauses_missed : (e.passCauses now).getLsbD 3 = (e.takes now && e.missed) := by
  unfold Entry.passCauses
  cases e.opens now <;> cases e.takes now <;> cases e.missed <;> cases e.ends now <;> rfl

end


/-! ### The pass over a sound calendar -/

/-- The entries that the pass takes. -/
def State.standing (s : State) : List Entry := s.cal.entries.filter fun e => decide (e.state ≠ .withdrawn)

theorem mem_standing {s : State} {e : Entry} : e ∈ s.standing ↔ e ∈ s.cal.entries ∧ e.state ≠ .withdrawn := by
  simp [State.standing]

section
variable {s : State}

theorem standing_nodup (h : s.cal.sound) : (s.standing.map Entry.ident).Nodup :=
  (List.filter_sublist.map Entry.ident).nodup h.holds.idents

theorem removeWithdrawn_standing (h : s.cal.sound) : s.removeWithdrawn = { s with cal := { s.cal with entries := s.standing } } :=
  removeWithdrawn_eq h

theorem boundaryPass_swept (h : s.cal.sound) (now : Nat) :
    (passSweep now).Swept s.standing { s with cal := { s.cal with entries := s.standing } } (s.boundaryPass now) := by
  have hremoved := removeWithdrawn_standing h
  obtain ⟨hsound, -⟩ := removeWithdrawn_carriesTo s h
  rw [hremoved] at hsound
  unfold State.boundaryPass
  rw [hremoved]
  exact Sweep.fold_swept (b := s.tb)
    (fun e x hx => ⟨(Entry.passed_carries hx).ident, (Entry.passed_carries hx).instant⟩)
    (fun t e ht _ he => passEntry_step ht he now) s.standing (standing_nodup h) hsound rfl fun e he => he

/-- The bits of the causes a pass raises, over all the entries. -/
theorem standing_any {f : Entry → Bool} {P : Entry → Prop} (hf : ∀ e, f e = true ↔ P e) (hstands : ∀ e, P e → e.state ≠ .withdrawn) :
    s.standing.any f = true ↔ ∃ e ∈ s.cal.entries, P e := by
  rw [List.any_eq_true]
  constructor
  · rintro ⟨e, he, hfe⟩
    exact ⟨e, (mem_standing.mp he).1, (hf e).mp hfe⟩
  · rintro ⟨e, he, hp⟩
    exact ⟨e, mem_standing.mpr ⟨he, hstands e hp⟩, (hf e).mpr hp⟩

/-- The entries after a pass: each as the table makes it, a WITHDRAWN one gone. -/
theorem swept_entries {w : Sweep} {t : State} (h : w.Swept s.standing { s with cal := { s.cal with entries := s.standing } } t) :
    t.cal.entries = s.cal.entries.filterMap fun e => if e.state = .withdrawn then none else w.becomes e := by
  rw [h.entries]
  dsimp only
  have hall : (s.standing.filterMap fun x => if x.ident ∈ s.standing.map Entry.ident then w.becomes x else some x) = s.standing.filterMap w.becomes :=
    List.filterMap_congr fun x hx => if_pos (List.mem_map.mpr ⟨x, hx, rfl⟩)
  rw [hall, State.standing, List.filterMap_filter]
  refine List.filterMap_congr fun x _ => ?_
  by_cases hx : x.state = .withdrawn <;> simp [hx]

/-- The ring after a pass, by which entries it keeps or joins. -/
theorem swept_ring {w : Sweep} {t : State} (hsound : s.cal.sound) (h : w.Swept s.standing { s with cal := { s.cal with entries := s.standing } } t)
    {stays joins : Entry → Prop} [DecidablePred joins] {keeps : Nat → Prop} [DecidablePred keeps]
    (hstays : ∀ e ∈ s.cal.entries, e.state.inRing = true → (w.rings e = true ↔ stays e))
    (hkeeps : ∀ e ∈ s.cal.entries, e.state.inRing = true → (keeps e.ident ↔ stays e))
    (hjoins : ∀ e ∈ s.cal.entries, (e.state ≠ .withdrawn ∧ w.rings e = true ∧ e.ident ∉ s.cal.ring) ↔ joins e) :
    t.cal.ring = (s.cal.ring.filter fun i => decide (keeps i)) ++ (s.cal.entries.filter fun e => decide (joins e)).map Entry.ident := by
  rw [h.ring]
  congr 1
  · refine List.filter_congr fun i hi => ?_
    obtain ⟨e, he, rfl, hr⟩ := (hsound.holds.mem_ring i).mp hi
    have hstanding : e ∈ s.standing := mem_standing.mpr ⟨he, fun hw => by rw [hw] at hr; cases hr⟩
    rw [Bool.eq_iff_iff, List.all_eq_true, decide_eq_true_iff, hkeeps e he hr, ← hstays e he hr]
    constructor
    · intro hall
      exact of_decide_eq_true (hall e hstanding) rfl
    · intro hrings x hx
      refine decide_eq_true fun hident => ?_
      rw [entry_eq_of_ident hsound.holds.idents (mem_standing.mp hx).1 he hident]
      exact hrings
  · refine congrArg (fun l : List Entry => l.map Entry.ident) ?_
    rw [State.standing, List.filter_filter]
    refine List.filter_congr fun e he => ?_
    rw [Bool.eq_iff_iff, decide_eq_true_iff, ← hjoins e he]
    simp only [Bool.and_eq_true, decide_eq_true_iff]
    tauto

/-- The profiles after a pass, over all the entries. -/
theorem swept_profiles {w : Sweep} {t : State} (h : w.Swept s.standing { s with cal := { s.cal with entries := s.standing } } t) (k : Fin 4)
    {f : Profile → Entry → Profile} (hf : ∀ p e, f p e = if e.state = .withdrawn then p else w.onProfile k p e) :
    t.profiles.get k = s.cal.entries.foldl f (s.profiles.get k) := by
  rw [h.profiles k, State.standing, List.foldl_filter]
  refine List.foldl_ext _ _ _ fun p e _ => ?_
  rw [hf]
  by_cases he : e.state = .withdrawn <;> simp [he]

end

theorem Arbiter.keep_decide {p : Nat → Prop} [DecidablePred p] (a : Arbiter) : (a.keep fun i => decide (p i)) = { a with
    inService := if ∃ x ∈ a.inService, ¬p x.ident then none else a.inService
    stack := a.stack.filter fun x => decide (p x.ident) } := by
  obtain ⟨slot, stack, mark⟩ := a
  cases slot with
  | none => simp [Arbiter.keep]
  | some x => by_cases hx : p x.ident <;> simp [Arbiter.keep, hx]


section
variable {now : Nat} {e : Entry}

theorem Entry.opens_stands (h : e.opens now = true) : e.state ≠ .withdrawn := by
  rw [(of_decide_eq_true h).1]; simp

theorem Entry.takes_stands (h : e.takes now = true) : e.state ≠ .withdrawn := by
  rcases (of_decide_eq_true h).1 with ho | hs | hs
  · exact Entry.opens_stands ho
  · rw [hs]; simp
  · rw [hs]; simp

theorem Entry.ends_stands (h : e.ends now = true) : e.state ≠ .withdrawn := by
  rcases (of_decide_eq_true h).1 with hs | ⟨ht, -⟩
  · rw [hs]; simp
  · exact Entry.takes_stands ht

/-- An entry of the ring stays in it past the boundary, one out of it joins it, unless its instant is now (R61). -/
theorem Entry.rings_of_inRing (hr : e.state.inRing = true) : (passSweep now).rings e = true ↔ e.instant ≠ now := by
  rw [passSweep_rings]
  have hs : e.state = .announcing ∨ e.state = .committed := by
    cases hstate : e.state with
    | announcing => exact .inl rfl
    | committed => exact .inr rfl
    | scheduled => rw [hstate] at hr; cases hr
    | inEffect => rw [hstate] at hr; cases hr
    | done => rw [hstate] at hr; cases hr
    | withdrawn => rw [hstate] at hr; cases hr
  exact ⟨fun h => h.2, fun h => ⟨.inr hs, h⟩⟩

theorem Entry.rings_of_out (hr : e.state.inRing = false) : (passSweep now).rings e = true ↔ e.opens now = true ∧ e.instant ≠ now := by
  rw [passSweep_rings]
  refine and_congr_left fun _ => ⟨fun h => ?_, .inl⟩
  rcases h with h | h | h
  · exact h
  · rw [h] at hr; cases hr
  · rw [h] at hr; cases hr

end

/-- What becomes of an entry at a minute boundary, by its conditions (R64 to R71). -/
theorem Entry.passed_eq (now : Nat) (e : Entry) : e.passed now =
    if e.takes now = true ∧ e.kind ≠ .interruption then
      if e.autoRetire = true then none
      else some { e with state := .done, locked := e.locked || e.opens now, outcome := some (if e.missed = true then .overtaken else .onTime) }
    else if e.ends now = true then
      if e.autoRetire = true then none
      else some { e with state := .done, locked := e.locked || e.takes now, outcome := some (if e.late = true then .overtaken else .onTime) }
    else if e.takes now = true then some { e with state := .inEffect, locked := true }
    else some { e with
      state := if (e.opens now = true ∨ e.state = .announcing) ∧ e.commitPoint ≤ now then .committed
        else if e.opens now = true then .announcing else e.state
      locked := e.locked || e.opens now } := by
  by_cases heffected : e.takes now = true ∧ e.kind ≠ .interruption
  · obtain ⟨ht, hk⟩ := heffected
    rw [if_pos ⟨ht, hk⟩, Entry.passed_effected ht hk]
  · rw [if_neg heffected]
    by_cases hends : e.ends now = true
    · rw [if_pos hends, Entry.passed_ended hends heffected]
    · rw [if_neg hends]
      by_cases ht : e.takes now = true
      · have hk : e.kind = .interruption := by
          by_contra hk
          exact heffected ⟨ht, hk⟩
        rw [if_pos ht, Entry.passed_begun ht hk hends]
      · rw [if_neg ht, Entry.passed_rest ht hends]

end Sys2Proof.Machine
end

section
/-! A deferred resume through the boundary pass, and the boundary pass of STATION_SECOND (R43, R64 to R71, R159, R160). -/

namespace Sys2Proof.Machine

/-! ### A deferred resume -/

/-- The channel waits for its deferred resume with the history `h`, or came back at `start` meanwhile. -/
def State.Awaits (n : Fin 4) (h : List RunSec) (start : Moment) (now : RunSec) (s : State) : Prop :=
  ((s.chan n).state = .held .calendar ∧ (s.chan n).resumeDeferred = true ∧ (s.chan n).history = h) ∨
  (h.length < 4 ∧ (s.chan n).state = .resuming ∧ (s.chan n).resumeDeferred = false ∧ (s.chan n).history = h ++ [now] ∧
    (s.chan n).resumeStart = some start ∧ s.att.flags.getLsbD 5 = true)

/-- What keeps a deferred resume waiting, or lets it take place, and leaves a channel that no entry holds or claims. -/
structure State.KeepsAwaiting (n : Fin 4) (s t : State) : Prop where
  tb : t.tb = s.tb
  ret : t.ret = s.ret
  awaits : ∀ h, s.Awaits n h (s.resumeMoment n) s.ret.runSeconds → t.Awaits n h (s.resumeMoment n) s.ret.runSeconds
  inert : (s.chan n).state ≠ .held .calendar → (s.chan n).claim = none → (s.chan n).SameButArbiter (t.chan n)

section
variable {n : Fin 4} {s t u : State}

theorem State.KeepsAwaiting.trans (h : s.KeepsAwaiting n t) (k : t.KeepsAwaiting n u) : s.KeepsAwaiting n u := by
  refine ⟨k.tb.trans h.tb, k.ret.trans h.ret, fun l hs => ?_, fun hheld hclaim => ?_⟩
  swap
  · have hsame := h.inert hheld hclaim
    exact hsame.trans (k.inert (by rw [hsame]; exact hheld) (by rw [hsame]; exact hclaim))
  have ht := k.awaits l
  rw [resumeMoment_congr h.tb h.ret, h.ret] at ht
  exact ht (h.awaits l hs)

/-- What changes a channel's arbiter record or its claim alone. -/
theorem State.KeepsAwaiting.of_claim (htb : t.tb = s.tb) (hret : t.ret = s.ret) (hchan : (s.chan n).SameButClaim (t.chan n))
    (hinert : (s.chan n).claim = none → (s.chan n).SameButArbiter (t.chan n))
    (hstands : s.att.flags.getLsbD 5 = true → t.att.flags.getLsbD 5 = true) : s.KeepsAwaiting n t := by
  refine ⟨htb, hret, fun h hs => ?_, fun _ => hinert⟩
  unfold State.Awaits
  rw [hchan]
  exact hs.imp id fun ⟨hlen, hstate, hdeferred, hhistory, hstart, hbit⟩ => ⟨hlen, hstate, hdeferred, hhistory, hstart, hstands hbit⟩

/-- What changes a channel's arbiter record alone. -/
theorem State.KeepsAwaiting.of_same (htb : t.tb = s.tb) (hret : t.ret = s.ret) (hchan : (s.chan n).SameButArbiter (t.chan n))
    (hstands : s.att.flags.getLsbD 5 = true → t.att.flags.getLsbD 5 = true) : s.KeepsAwaiting n t :=
  .of_claim htb hret (by rw [hchan]; rfl) (fun _ => hchan) hstands

theorem State.KeepsAwaiting.of_eq (htb : t.tb = s.tb) (hret : t.ret = s.ret) (hchan : t.chan n = s.chan n) (hatt : t.att = s.att) :
    s.KeepsAwaiting n t := .of_same htb hret (by rw [hchan]; rfl) fun h => by rw [hatt]; exact h

theorem raise_keepsAwaiting (n : Fin 4) (c : Cause) (s : State) : s.KeepsAwaiting n (s.raise c) :=
  .of_same rfl rfl rfl fun h => by
    change (s.att.flags ||| c.weight).getLsbD 5 = true
    rw [BitVec.getLsbD_or, h, Bool.true_or]

theorem leaveRing_keepsAwaiting (n : Fin 4) (i : Nat) (s : State) : s.KeepsAwaiting n (s.leaveRing i) := by
  by_cases hi : i ∈ s.cal.ring
  · have hchan : (s.leaveRing i).chan n = (s.chan n).forgets i := by
      rw [leaveRing_present hi]
      exact Four.get_map _ _ _
    exact .of_same (leaveRing_tb i s) (by rw [leaveRing_frame]) (by rw [hchan]; rfl) fun h => by rw [leaveRing_att]; exact h
  · rw [leaveRing_absent hi]
    exact .of_eq rfl rfl rfl rfl

theorem joinRing_keepsAwaiting (n : Fin 4) (i : Nat) (s : State) : s.KeepsAwaiting n (s.joinRing i) := by
  unfold State.joinRing
  split
  · exact .of_eq rfl rfl rfl rfl
  · exact (State.KeepsAwaiting.of_eq (s := s) (t := { s with cal := { s.cal with ring := s.cal.ring ++ [i] } }) rfl rfl rfl rfl).trans
      (raise_keepsAwaiting n _ _)

theorem removeEntry_keepsAwaiting (n : Fin 4) (i : Nat) (s : State) : s.KeepsAwaiting n (s.removeEntry i) :=
  (leaveRing_keepsAwaiting n i s).trans (.of_eq rfl rfl rfl rfl)

theorem modifyEntry_keepsAwaiting (n : Fin 4) (i : Nat) (f : Entry → Entry) (s : State) : s.KeepsAwaiting n (s.modifyEntry i f) :=
  .of_eq rfl rfl rfl rfl

theorem finishEntry_keepsAwaiting (n : Fin 4) (e : Entry) (o : EntryOutcome) (s : State) : s.KeepsAwaiting n (s.finishEntry e o) := by
  have hdone := (leaveRing_keepsAwaiting n e.ident s).trans
    (modifyEntry_keepsAwaiting n e.ident (fun e => { e with state := .done, outcome := some o }) _)
  unfold State.finishEntry
  dsimp only
  split
  · exact hdone.trans (removeEntry_keepsAwaiting n e.ident _)
  · exact hdone

theorem applyPayload_keepsAwaiting (n : Fin 4) (p : Payload) (s : State) : s.KeepsAwaiting n (s.applyPayload p) := by
  rw [applyPayload_frame]
  exact .of_eq rfl rfl rfl rfl

/-- A release lets the resume take place where the budget allows, and else leaves it deferred (R159). -/
theorem release_keepsAwaiting (n : Fin 4) (i : Nat) (s : State) : s.KeepsAwaiting n (s.release i) := by
  have htb : (s.release i).tb = s.tb := release_tb i s
  have hret : (s.release i).ret = s.ret := by rw [release_frame]
  have hchan := release_chan i n s
  have hstands := (release_causes i s).stands (k := 5)
  by_cases hheld : (s.chan n).state = .held .calendar ∧ (s.chan n).heldBy = some i
  · obtain ⟨hstate, hby⟩ := hheld
    refine ⟨htb, hret, fun h hs => ?_, fun hno => absurd hstate hno⟩
    rcases hs with ⟨-, -, hhistory⟩ | ⟨-, hresuming, -⟩
    · by_cases hlen : (s.chan n).history.length < 4
      · rw [Channel.released_resumes hstate hby hlen] at hchan
        refine .inr ⟨hhistory ▸ hlen, ?_, ?_, ?_, ?_, release_event ⟨hstate, hby, hlen⟩⟩
        · rw [hchan]; exact Channel.moved_state _ _
        · rw [hchan]
          exact congrArg Channel.resumeDeferred (Channel.moved_enter (by rw [hstate]; simp))
        · rw [hchan, ← hhistory]; rfl
        · rw [hchan]; rfl
      · rw [Channel.released_defers hstate hby (not_lt.mp hlen)] at hchan
        refine .inl ⟨?_, ?_, ?_⟩
        · rw [hchan]; exact hstate
        · rw [hchan]
        · rw [hchan]; exact hhistory
    · rw [hstate] at hresuming
      cases hresuming
  · have hunnamed : (s.chan n).claim ≠ some i → (s.release i).chan n = s.chan n := fun hclaim =>
      hchan.trans (Channel.released_unnamed hheld hclaim)
    refine .of_claim htb hret ?_ (fun hclaim => by rw [hunnamed (by rw [hclaim]; simp)]; rfl) hstands
    by_cases hclaim : (s.chan n).claim = some i
    · rw [hchan, Channel.released_unclaims hheld hclaim]
      rfl
    · rw [hunnamed hclaim]
      rfl

theorem foldl_keepsAwaiting {α : Type} {f : State → α → State} (h : ∀ (s : State) (a : α), s.KeepsAwaiting n (f s a)) (l : List α) (s : State) :
    s.KeepsAwaiting n (l.foldl f s) := by
  induction l generalizing s with
  | nil => exact .of_eq rfl rfl rfl rfl
  | cons a l ih => exact (h s a).trans (ih _)

theorem onEntry_keepsAwaiting {move : Entry → State → State} (h : ∀ (e : Entry) (s : State), s.KeepsAwaiting n (move e s)) (i : Nat) (s : State) :
    s.KeepsAwaiting n (s.onEntry i move) := by
  unfold State.onEntry
  split
  · exact h _ s
  · exact .of_eq rfl rfl rfl rfl

theorem openEntry_keepsAwaiting (n : Fin 4) (now : Nat) (e : Entry) (s : State) : s.KeepsAwaiting n (s.openEntry now e) := by
  unfold State.openEntry
  split
  · exact (modifyEntry_keepsAwaiting n e.ident _ s).trans (joinRing_keepsAwaiting n e.ident _)
  · exact .of_eq rfl rfl rfl rfl

theorem commitEntry_keepsAwaiting (n : Fin 4) (now : Nat) (e : Entry) (s : State) : s.KeepsAwaiting n (s.commitEntry now e) := by
  unfold State.commitEntry
  split <;> exact .of_eq rfl rfl rfl rfl

theorem effectEntry_keepsAwaiting (n : Fin 4) (now : Nat) (e : Entry) (s : State) : s.KeepsAwaiting n (s.effectEntry now e) := by
  have hraised : ∀ (o : EntryOutcome) (c : Cause) (t : State), t.KeepsAwaiting n ((t.finishEntry e o).raise c) := fun o c t =>
    (finishEntry_keepsAwaiting n e o t).trans (raise_keepsAwaiting n c _)
  unfold State.effectEntry
  split
  · split
    · exact (applyPayload_keepsAwaiting n _ s).trans (hraised _ _ _)
    · exact hraised _ _ s
    · split <;> exact hraised _ _ s
    · split <;> exact hraised _ _ s
    · exact ((leaveRing_keepsAwaiting n e.ident s).trans (modifyEntry_keepsAwaiting n e.ident _ _)).trans (raise_keepsAwaiting n _ _)
  · exact .of_eq rfl rfl rfl rfl

theorem endOutage_keepsAwaiting (n : Fin 4) (now : Nat) (e : Entry) (s : State) : s.KeepsAwaiting n (s.endOutage now e) := by
  unfold State.endOutage
  split
  · exact ((finishEntry_keepsAwaiting n e _ s).trans (release_keepsAwaiting n e.ident _)).trans (raise_keepsAwaiting n _ _)
  · exact .of_eq rfl rfl rfl rfl

theorem boundaryPass_keepsAwaiting (n : Fin 4) (now : Nat) (s : State) : s.KeepsAwaiting n (s.boundaryPass now) :=
  (foldl_keepsAwaiting (fun s (e : Entry) => removeEntry_keepsAwaiting n e.ident s) _ s).trans
    (foldl_keepsAwaiting (fun s i => (((onEntry_keepsAwaiting (openEntry_keepsAwaiting n now) i s).trans
      (onEntry_keepsAwaiting (commitEntry_keepsAwaiting n now) i _)).trans (onEntry_keepsAwaiting (effectEntry_keepsAwaiting n now) i _)).trans
      (onEntry_keepsAwaiting (endOutage_keepsAwaiting n now) i _)) _ _)

end

/-! ### The station second's boundary -/

/-- A second whose corrections are sound has a length (R1). -/
theorem setLength_pos {s : State} (h : s.timeRecord.Bounded) : 0 < s.setLength.tb.length := by
  have hpos : ∀ (ns : Int) (t : State), (-50000 ≤ ns ∧ ns ≤ 50000) → t.tb.carried = s.tb.remainder → 0 < (t.correct ns).tb.length := by
    intro ns t hns hcarried
    have hremainder : -100 ≤ t.tb.carried ∧ t.tb.carried ≤ 100 := by rw [hcarried]; exact h.remainder
    obtain ⟨k, hlength, hleft, hlow, hhigh⟩ := correct_resolved hns hremainder
    cases hf : t.tb.fselHigh with
    | true =>
      simp only [hf, if_true] at hlength hleft hlow hhigh
      omega
    | false =>
      simp only [hf, Bool.false_eq_true, if_false] at hlength hleft hlow hhigh
      omega
  by_cases hst : s.tb.state ≠ .locked ∨ s.tb.measured = none
  · rw [State.setLength_of_estimate hst]
    exact hpos _ _ (estimate_bounds h.window) rfl
  · obtain ⟨hst, hm⟩ := not_or.mp hst
    obtain ⟨e, he⟩ := Option.ne_none_iff_exists'.mp hm
    rw [State.setLength_of_measured (not_not.mp hst) he]
    have hslew := slewOf_bounds e
    exact hpos _ _ (by omega) rfl

/-- At the first moment of a second that has a length the phase is 0. -/
theorem phase_zero {s : State} (helapsed : s.tb.elapsed = 0) (hlength : 0 < s.tb.length) : s.phase = 0 := by
  unfold State.phase
  rw [helapsed, if_pos (by omega), Nat.zero_div, Nat.min_zero]

theorem testDeferred_other {n m : Fin 4} (h : m ≠ n) (s : State) : (s.testDeferred n).chan m = s.chan m := by
  rw [testDeferred_chan, if_neg h]

theorem testDeferred_event {n : Fin 4} {s : State}
    (h : (s.chan n).state = .held .calendar ∧ (s.chan n).resumeDeferred = true ∧ (s.chan n).spent = false) :
    (s.testDeferred n).att.flags.getLsbD 5 = true := by
  unfold State.testDeferred
  dsimp only
  rw [if_pos h]
  change ((s.startResuming n).att.flags ||| 0x0020).getLsbD 5 = true
  rw [BitVec.getLsbD_or]
  simp

/-- A deferred resume takes place at the boundary where the budget allows (R160). -/
theorem testDeferred_each_resumes {n : Fin 4} {h : List RunSec} {s : State} (hs : s.Awaits n h (s.resumeMoment n) s.ret.runSeconds)
    (hlen : h.length < 4) : ((s.eachChannel State.testDeferred).chan n).state = .resuming ∧
      ((s.eachChannel State.testDeferred).chan n).resumeDeferred = false ∧
      ((s.eachChannel State.testDeferred).chan n).history = h ++ [s.ret.runSeconds] ∧
      ((s.eachChannel State.testDeferred).chan n).resumeStart = some (s.resumeMoment n) ∧
      (s.eachChannel State.testDeferred).att.flags.getLsbD 5 = true := by
  have hchan := testDeferred_each_chan n s
  rcases hs with ⟨hstate, hdeferred, hhistory⟩ | ⟨-, hstate, hdeferred, hhistory, hstart, hbit⟩
  · have hdue : (s.chan n).state = .held .calendar ∧ (s.chan n).resumeDeferred = true ∧ (s.chan n).spent = false :=
      ⟨hstate, hdeferred, Channel.not_spent_iff.mpr (by rw [hhistory]; exact hlen)⟩
    rw [Channel.testedDeferred, if_pos hdue] at hchan
    refine ⟨?_, ?_, ?_, ?_, ?_⟩
    · rw [hchan]; exact Channel.moved_state _ _
    · rw [hchan]
      exact congrArg Channel.resumeDeferred (Channel.moved_enter (by rw [hstate]; simp))
    · rw [hchan, ← hhistory]; rfl
    · rw [hchan]; rfl
    · exact eachChannel_event (P := fun c => c.state = .held .calendar ∧ c.resumeDeferred = true ∧ c.spent = false)
        (fun m s hs => (testDeferred_causes m s).stands hs) (fun m n s hm => testDeferred_other hm s) (fun n s h => testDeferred_event h) hdue
  · have hkept : (s.chan n).testedDeferred (s.resumeMoment n) s.ret.runSeconds = s.chan n := if_neg fun h => by
      rw [hstate] at h
      cases h.1
    rw [hchan, hkept]
    exact ⟨hstate, hdeferred, hhistory, hstart, (testDeferred_each_causes s).stands hbit⟩

/-- A deferred resume goes on waiting where the history is full (R160). -/
theorem testDeferred_each_waits {n : Fin 4} {h : List RunSec} {s : State} (hs : s.Awaits n h (s.resumeMoment n) s.ret.runSeconds)
    (hlen : 4 ≤ h.length) : ((s.eachChannel State.testDeferred).chan n).state = .held .calendar ∧
      ((s.eachChannel State.testDeferred).chan n).resumeDeferred = true ∧ ((s.eachChannel State.testDeferred).chan n).history = h := by
  rcases hs with ⟨hstate, hdeferred, hhistory⟩ | ⟨hroom, -⟩
  · have hkept : (s.chan n).testedDeferred (s.resumeMoment n) s.ret.runSeconds = s.chan n := if_neg fun ht => by
      have hroom := Channel.not_spent_iff.mp ht.2.2
      rw [hhistory] at hroom
      omega
    rw [testDeferred_each_chan, hkept]
    exact ⟨hstate, hdeferred, hhistory⟩
  · omega

theorem askLeap_chan (u : UtcSecond) (n : Fin 4) (s : State) : (s.askLeap u).chan n = s.chan n := by
  unfold State.askLeap; split <;> rfl

/-- STATION_SECOND into a second 0: a deferred resume through the boundary pass and the test after it (R64, R160). -/
theorem stationSecond_awaits {s : State} {u : UtcSecond} {n : Fin 4} (htime : s.tb.time = some u) (hzero : (s.secondAfter u).second = 0)
    (hkept : (s.secondAfter u).minute < minutesKept) (hsound : s.tb.sound) (hheld : (s.chan n).state = .held .calendar)
    (hdeferred : (s.chan n).resumeDeferred = true) : ∃ x : State, stationSecond s = x.eachChannel State.testDeferred ∧
      x.Awaits n (s.chan n).history (x.resumeMoment n) x.ret.runSeconds ∧ x.ret.runSeconds = s.ret.runSeconds ∧
      x.resumeMoment n = ⟨(s.secondAfter u).minute, 0, 0⟩ := by
  obtain ⟨b, hb⟩ : ∃ b, (s.secondReached u).evaluate.setLength = b := ⟨_, rfl⟩
  have hsecond : stationSecond s = (b.boundaryPass (s.secondAfter u).minute).eachChannel State.testDeferred := by
    rw [stationSecond_eq htime hkept, ← hb]
    exact if_pos hzero
  have hreached : (s.secondReached u).timeRecord.Sound := by
    obtain ⟨htimed, hgraded, hbounded⟩ := timeRecord_sound_iff.mpr hsound
    unfold State.timeRecord
    rw [secondReached_tb]
    exact ⟨⟨fun hs => absurd (htimed.mp hs) (by rw [show s.timeRecord.time = some u from htime]; simp), nofun⟩, hgraded,
      ⟨hbounded.length, hbounded.window, hbounded.carried, hbounded.remainder⟩⟩
  have hlength : 0 < b.tb.length := hb ▸ setLength_pos (evaluate_sound hreached (by rw [secondReached_tb]; rfl)).bounded
  have hbtb : b.tb.time = some (s.secondAfter u) ∧ b.tb.elapsed = 0 := by
    rw [← hb, setLength_kept, (evaluate_followed _).kept, secondReached_tb]
    exact ⟨rfl, rfl⟩
  have hbret : b.ret.runSeconds = s.ret.runSeconds := by
    rw [← hb, setLength_frame, evaluate_frame]
    exact congrArg (fun r => r.runSeconds) (secondReached_ret u s)
  have hbchan : b.chan n = s.chan n := by
    rw [← hb, setLength_frame, evaluate_frame]
    exact askLeap_chan u n _
  have hkeeps := boundaryPass_keepsAwaiting n (s.secondAfter u).minute b
  have hawaits := hkeeps.awaits (s.chan n).history (.inl ⟨by rw [hbchan]; exact hheld, by rw [hbchan]; exact hdeferred, by rw [hbchan]⟩)
  have hmoment := resumeMoment_congr hkeeps.tb hkeeps.ret n
  refine ⟨_, hsecond, ?_, ?_, ?_⟩
  · rw [hmoment, hkeeps.ret]
    exact hawaits
  · rw [hkeeps.ret, hbret]
  · rw [hmoment, resumeMoment_timed hbtb.1, phase_zero hbtb.2 hlength, hzero]

/-- Settles O34: the pass over a sound calendar by its table; a deferred resume through the pass and the test after it. -/
theorem boundaryPassMovesEntries : Obligations.BoundaryPassMovesEntries := by
  refine ⟨fun now s hsound => ?_, ?_⟩
  · intro opens commits takes ends missed passed t released
    have hopens : ∀ e, opens e ↔ e.opens now = true := fun e => decide_eq_true_iff.symm
    have htakes : ∀ e, takes e ↔ e.takes now = true := fun e => by
      rw [Entry.takes, decide_eq_true_iff, ← hopens]
    have hends : ∀ e, ends e ↔ e.ends now = true := fun e => by
      rw [Entry.ends, decide_eq_true_iff, ← htakes]
    have hmissed : ∀ e, missed e ↔ e.missed = true := fun e => decide_eq_true_iff.symm
    have hcommits : ∀ e, commits e ↔ (e.opens now = true ∨ e.state = .announcing) ∧ e.commitPoint ≤ now := fun e => by
      rw [← hopens]
      exact Iff.rfl
    have hswept := boundaryPass_swept hsound now
    have hnodup := standing_nodup hsound
    refine ⟨?entries, hswept.next, ?ring, fun k => ?profiles, ?announcing, ?effected, ?ended, ?overtaken, fun n => ?channels⟩
    case entries =>
      rw [swept_entries hswept]
      refine List.filterMap_congr fun e _ => ?_
      have hpassed : (passSweep now).becomes e = e.passed now := rfl
      rw [hpassed, Entry.passed_eq]
      simp only [passed, hopens, hcommits, htakes, hends, hmissed, Bool.decide_eq_true]
    case ring =>
      refine swept_ring hsound hswept (stays := fun e => e.instant ≠ now) (fun e _ hr => Entry.rings_of_inRing hr) (fun e he hr => ?_) fun e he => ?_
      · exact ⟨fun h => h e he rfl, fun h x hx hi => by rwa [entry_eq_of_ident hsound.holds.idents hx he hi]⟩
      · rw [hsound.ident_mem_ring he, hopens]
        constructor
        · exact fun h => (Entry.rings_of_out (Bool.eq_false_iff.mpr h.2.2)).mp h.2.1
        · intro h
          have hout : e.state.inRing = false := by rw [(of_decide_eq_true h.1).1]; rfl
          exact ⟨Entry.opens_stands h.1, (Entry.rings_of_out hout).mpr h, Bool.eq_false_iff.mp hout⟩
    case profiles =>
      refine swept_profiles hswept k fun p e => ?_
      have happlies : (passSweep now).onProfile k p e = if e.takes now = true then e.payload.onProfile k p else p := rfl
      have hstands : e.takes now = true → e.state ≠ .withdrawn := Entry.takes_stands
      rw [happlies]
      simp only [htakes]
      by_cases hw : e.state = .withdrawn
      · have ht : e.takes now ≠ true := fun ht => hstands ht hw
        rw [if_pos hw]
        cases e.payload <;> simp [ht]
      · rw [if_neg hw]
        by_cases ht : e.takes now = true
        · cases e.payload <;> simp [ht, Payload.onProfile]
        · cases e.payload <;> simp [ht]
    case announcing =>
      refine (hswept.raised 0 rfl).trans (congrArg (s.att.flags.getLsbD 0 || ·) ?_)
      rw [Bool.eq_iff_iff, decide_eq_true_iff]
      exact standing_any (fun e => by rw [hopens]; exact Bool.eq_iff_iff.mp Entry.passCauses_opens) fun e he => Entry.opens_stands ((hopens e).mp he)
    case effected =>
      refine (hswept.raised 1 rfl).trans (congrArg (s.att.flags.getLsbD 1 || ·) ?_)
      rw [Bool.eq_iff_iff, decide_eq_true_iff]
      refine standing_any (fun e => ?_) fun e he => Entry.takes_stands ((htakes e).mp he.1)
      rw [htakes, hmissed]
      exact (Bool.eq_iff_iff.mp Entry.passCauses_takes).trans (by simp)
    case ended =>
      refine (hswept.raised 2 rfl).trans (congrArg (s.att.flags.getLsbD 2 || ·) ?_)
      rw [Bool.eq_iff_iff, decide_eq_true_iff]
      exact standing_any (fun e => by rw [hends]; exact Bool.eq_iff_iff.mp Entry.passCauses_ends) fun e he => Entry.ends_stands ((hends e).mp he)
    case overtaken =>
      refine (hswept.raised 3 rfl).trans (congrArg (s.att.flags.getLsbD 3 || ·) ?_)
      rw [Bool.eq_iff_iff, decide_eq_true_iff]
      refine standing_any (fun e => ?_) fun e he => Entry.takes_stands ((htakes e).mp he.1)
      rw [htakes, hmissed]
      exact (Bool.eq_iff_iff.mp Entry.passCauses_missed).trans (by simp)
    case channels =>
      intro c
      obtain ⟨start, hstart⟩ : ∃ start, State.resumeMoment n { s with cal := { s.cal with entries := s.standing } } = start := ⟨_, rfl⟩
      have hmoment : s.resumeMoment n = start := hstart ▸ (resumeMoment_congr (s := s) (t := { s with cal := _ }) rfl rfl n).symm
      have hchan : t.chan n = s.standing.foldl ((passSweep now).onChannel start s.ret.runSeconds) c := hstart ▸ hswept.chan n
      have hleft : ∀ i, (∀ e ∈ s.standing, (passSweep now).leaves e = true → e.ident ≠ i) ↔ ∀ e ∈ s.cal.entries, takes e → e.ident ≠ i := fun i =>
        ⟨fun h e he ht => h e (mem_standing.mpr ⟨he, Entry.takes_stands ((htakes e).mp ht)⟩) ((htakes e).mp ht),
          fun h e he ht => h e (mem_standing.mp he).1 ((htakes e).mpr ht)⟩
      have hends' : ∀ e ∈ s.cal.entries, ends e → e ∈ s.standing ∧ (passSweep now).releases e = true := fun e he hend =>
        ⟨mem_standing.mpr ⟨he, Entry.ends_stands ((hends e).mp hend)⟩, (hends e).mp hend⟩
      have hends'' : ∀ e ∈ s.standing, (passSweep now).releases e = true → e ∈ s.cal.entries ∧ ends e := fun e he hr =>
        ⟨(mem_standing.mp he).1, (hends e).mpr hr⟩
      have hunheld : ¬released c → ∀ e ∈ s.standing, (passSweep now).releases e = true → ¬(c.state = .held .calendar ∧ c.heldBy = some e.ident) :=
        fun hno e he hr hheld => by
          obtain ⟨hmem, hend⟩ := hends'' e he hr
          exact hno ⟨hheld.1, e, hmem, hend, hheld.2⟩
      refine ⟨?arbiter, fun hrel hlen => ?resumes, fun hrel hlen => ?defers, fun hno hclaims => ?unnamed, fun hno hclaims => ?unclaims⟩
      case arbiter =>
        rw [hchan, Sweep.fold_arbiter, Arbiter.keep_decide]
        refine congrArg₂ (fun slot stack => ({ c.arbiter with inService := slot, stack := stack } : Arbiter)) (if_congr ?_ rfl rfl)
          (List.filter_congr fun x _ => decide_eq_decide.mpr (hleft _))
        refine exists_congr fun x => and_congr_right fun _ => ?_
        rw [hleft]
        push Not
        rfl
      case resumes =>
        obtain ⟨hheld, e, he, hend, hby⟩ := hrel
        obtain ⟨hmem, hr⟩ := hends' e he hend
        obtain ⟨hstate, hhistory, hresume⟩ := Sweep.fold_resumes (start := start) (now := s.ret.runSeconds) hnodup hmem hr ⟨hheld, hby, hlen⟩
        rw [← hchan] at hstate hhistory hresume
        refine ⟨hstate, hhistory, hswept.event e hmem hr n ⟨hheld, hby, hlen⟩, fun u hu => ?_⟩
        rw [hresume, ← hmoment, resumeMoment_timed hu]
      case defers =>
        obtain ⟨hheld, e, he, hend, hby⟩ := hrel
        obtain ⟨hmem, hr⟩ := hends' e he hend
        rw [hchan]
        exact Sweep.fold_defers hnodup hmem hr hheld hby hlen
      case unnamed =>
        rw [hchan]
        refine Sweep.fold_unnamed s.standing fun e he hr => ⟨hunheld hno e he hr, ?_⟩
        obtain ⟨hmem, hend⟩ := hends'' e he hr
        exact hclaims e hmem hend
      case unclaims =>
        obtain ⟨e, he, hend, hclaim⟩ := hclaims
        obtain ⟨hmem, hr⟩ := hends' e he hend
        rw [hchan]
        exact Sweep.fold_unclaims hnodup hmem hr hclaim (hunheld hno)
  · intro u s hr htime hzero hkept hsound v
    have hbook := handOn_boundaryPass (t := s.askLeap u) hzero (s := s.secondReached u)
      ⟨secondReached_cal u s, (secondReached_profiles u s).trans askLeap_profiles.symm⟩
    rw [← stationSecond_eq htime hkept] at hbook
    refine ⟨_, exec_stationSecond hr, hbook.cal, hbook.profiles, fun n hheld hdeferred => ?_⟩
    obtain ⟨x, hsecond, hawaits, hrun, hmoment⟩ := stationSecond_awaits htime hzero hkept hsound hheld hdeferred
    rw [hsecond]
    refine ⟨fun hlen => ?_, fun hlen => testDeferred_each_waits hawaits hlen⟩
    have hresumes := testDeferred_each_resumes hawaits hlen
    rw [hrun, hmoment] at hresumes
    exact hresumes

end Sys2Proof.Machine
end

section
/-! The discontinuity procedure as a table: what it does with an entry, and that its moves do it (R72 to R75). -/

namespace Sys2Proof.Machine

/-! ### The table of the procedure -/

/-- The entry has not taken effect yet. -/
def Entry.ahead (e : Entry) : Bool := decide (e.state = .scheduled ∨ e.state = .announcing ∨ e.state = .committed)

/-- The new station time has overtaken the entry (R73, R74). -/
def Entry.overtaken (now : Nat) (e : Entry) : Bool :=
  decide ((e.ahead = true ∧ e.instant ≤ now) ∨ (e.state = .inEffect ∧ e.outageEnd ≤ now))

/-- The entry's instant is to come at the new station time (R74, R75). -/
def Entry.toCome (now : Nat) (e : Entry) : Bool := decide ((e.ahead = true ∨ e.state = .inEffect) ∧ now < e.instant)

/-- The entry is in the ring at the new station time (R75). -/
def Entry.joined (now : Nat) (e : Entry) : Bool := decide (e.toCome now = true ∧ e.stateAt now ≠ .scheduled)

/-- The causes the entry's move raises (R73 to R75). -/
def Entry.placeCauses (now : Nat) (e : Entry) : BitVec 13 :=
  (if e.overtaken now = true then 0x0008 else 0) ||| (if e.joined now = true ∧ e.state.inRing = false then 0x0001 else 0)

/-- The discontinuity procedure. -/
def placeSweep (now : UtcSecond) : Sweep where
  becomes := Entry.replaced none now
  applies e := decide (e.ahead = true ∧ e.instant ≤ now.minute)
  leaves e := e.state.inRing && !e.joined now.minute
  releases e := decide (e.state = .inEffect ∧ (e.overtaken now.minute = true ∨ e.toCome now.minute = true))
  causes e := e.placeCauses now.minute

/-! ### A move that hands on no release, and one that does -/

namespace Sweep

/-- What a move does that hands on no release, but for the calendar. -/
structure Moved (w : Sweep) (e : Entry) (s t : State) : Prop where
  profiles : ∀ k, t.profiles.get k = w.onProfile k (s.profiles.get k) e
  chan : ∀ n, t.chan n = w.onArbiter (s.chan n) e
  att : t.att = { s.att with flags := s.att.flags ||| w.causes e }
  tb : t.tb = s.tb
  ret : t.ret = s.ret

variable {w : Sweep} {e : Entry} {s t : State}

theorem Moved.step (h : w.Moved e s t) (hcal : t.cal = s.cal.put e.ident (w.becomes e)) (hr : w.releases e ≠ true) : w.Step e s t where
  cal := hcal
  profiles := h.profiles
  chan n := (h.chan n).trans (if_neg hr).symm
  raised := by rw [h.att]
  stands k hk := by rw [h.att, BitVec.getLsbD_or, hk, Bool.true_or]
  event hr' := absurd hr' hr
  tb := h.tb
  ret := h.ret

theorem Moved.release (h : w.Moved e s t) (hcal : t.cal = s.cal.put e.ident (w.becomes e)) (hr : w.releases e = true) :
    w.Step e s (t.release e.ident) where
  cal := by rw [release_cal, hcal]
  profiles k := by rw [release_frame]; exact h.profiles k
  chan n := by
    rw [release_chan, h.chan, resumeMoment_congr h.tb h.ret, h.ret]
    exact (if_pos hr).symm
  raised := by rw [(release_causes e.ident t).within, h.att]
  stands k hk := (release_causes e.ident t).stands (by rw [h.att, BitVec.getLsbD_or, hk, Bool.true_or])
  event _ n hback := by
    refine release_event (n := n) ?_
    obtain ⟨hheld, hnamed, hlen⟩ := hback
    rw [h.chan, onArbiter_frame]
    exact ⟨hheld, hnamed, hlen⟩
  tb := by rw [release_frame]; exact h.tb
  ret := by rw [release_frame]; exact h.ret

/-- A state that is as it was, for an entry that the table does nothing with. -/
theorem Moved.refl (happlies : w.applies e ≠ true) (hleaves : w.leaves e ≠ true) (hcauses : w.causes e = 0) : w.Moved e s s where
  profiles _ := (if_neg happlies).symm
  chan _ := (if_neg hleaves).symm
  att := by rw [hcauses, show ∀ x : BitVec 13, x ||| 0 = x from fun x => BitVec.or_zero]
  tb := rfl
  ret := rfl

end Sweep

/-! ### Entries by their state -/

section
variable {now : Nat} {e : Entry}

theorem Entry.ahead_not_inEffect (h : e.ahead = true) : e.state ≠ .inEffect := by
  rcases of_decide_eq_true h with hs | hs | hs <;> rw [hs] <;> simp

theorem Entry.ahead_stands (h : e.ahead = true) : e.state ≠ .withdrawn := by
  rcases of_decide_eq_true h with hs | hs | hs <;> rw [hs] <;> simp

theorem Entry.ahead_of_inRing (h : e.state.inRing = true) : e.ahead = true := by
  refine decide_eq_true ?_
  cases hs : e.state with
  | announcing => simp
  | committed => simp
  | scheduled => rw [hs] at h; cases h
  | inEffect => rw [hs] at h; cases h
  | done => rw [hs] at h; cases h
  | withdrawn => rw [hs] at h; cases h

theorem Entry.overtaken_ahead (h : e.ahead = true) : e.overtaken now = decide (e.instant ≤ now) := by
  unfold Entry.overtaken
  simp [h, Entry.ahead_not_inEffect h]

theorem Entry.toCome_ahead (h : e.ahead = true) : e.toCome now = decide (now < e.instant) := by
  unfold Entry.toCome
  simp [h]

theorem Entry.not_ahead_of_inEffect (h : e.state = .inEffect) : e.ahead = false := by
  unfold Entry.ahead
  rw [h]
  rfl

theorem Entry.overtaken_inEffect (h : e.state = .inEffect) : e.overtaken now = decide (e.outageEnd ≤ now) := by
  unfold Entry.overtaken
  simp [h, Entry.not_ahead_of_inEffect h]

theorem Entry.toCome_inEffect (h : e.state = .inEffect) : e.toCome now = decide (now < e.instant) := by
  unfold Entry.toCome
  simp [h]

theorem Entry.instant_le_outageEnd (e : Entry) : e.instant ≤ e.outageEnd := Nat.le_add_right _ _

/-- An entry whose instant is to come is not overtaken. -/
theorem Entry.toCome_not_overtaken (h : e.toCome now = true) : e.overtaken now = false := by
  have hcome := (of_decide_eq_true h).2
  refine decide_eq_false ?_
  rintro (⟨-, hi⟩ | ⟨-, ho⟩)
  · exact absurd hcome (not_lt.mpr hi)
  · exact absurd hcome (not_lt.mpr (e.instant_le_outageEnd.trans ho))

theorem Entry.stateAt_inRing : (e.stateAt now).inRing = true ↔ e.stateAt now ≠ .scheduled := by
  unfold Entry.stateAt
  split
  · simp [EntryState.inRing]
  · split <;> simp [EntryState.inRing]

theorem Entry.joined_toCome (h : e.toCome now = true) : e.joined now = (e.stateAt now).inRing := by
  rw [Bool.eq_iff_iff, Entry.stateAt_inRing]
  unfold Entry.joined
  simp [h]

theorem Entry.joined_not_toCome (h : e.toCome now = false) : e.joined now = false := by
  unfold Entry.joined
  simp [h]

theorem Entry.placeCauses_not_toCome (h : e.toCome now = false) : e.placeCauses now = if e.overtaken now = true then 0x0008 else 0 := by
  unfold Entry.placeCauses
  rw [Entry.joined_not_toCome h]
  simp

theorem Entry.placeCauses_toCome (h : e.toCome now = true) :
    e.placeCauses now = if (e.stateAt now).inRing = true ∧ e.state.inRing = false then 0x0001 else 0 := by
  unfold Entry.placeCauses
  rw [Entry.toCome_not_overtaken h, Entry.joined_toCome h]
  simp

end


/-! ### The moves, but for the calendar -/

section
variable {s : State} {e : Entry}

/-- The channels without an entry that leaves the ring. -/
theorem finishEntry_frame_chans (o : EntryOutcome) : s.finishEntry e o = { s with
    cal := (s.finishEntry e o).cal
    chans := if e.ident ∈ s.cal.ring then s.chans.map (Channel.forgets e.ident) else s.chans } := by
  by_cases h : e.ident ∈ s.cal.ring
  · rw [if_pos h]
    exact finishEntry_present h o
  · rw [if_neg h]
    exact finishEntry_absent h o

theorem leaveRing_frame_chans (i : Nat) (s : State) : s.leaveRing i = { s with
    cal := (s.leaveRing i).cal
    chans := if i ∈ s.cal.ring then s.chans.map (Channel.forgets i) else s.chans } := by
  by_cases h : i ∈ s.cal.ring
  · rw [if_pos h, leaveRing_present h]
    rfl
  · rw [if_neg h, leaveRing_absent h]

theorem joinRing_frame_att (i : Nat) (s : State) : s.joinRing i = { s with
    cal := (s.joinRing i).cal
    att := { s.att with flags := s.att.flags ||| if i ∈ s.cal.ring then 0 else 0x0001 } } := by
  unfold State.joinRing
  split
  · rw [show ∀ x : BitVec 13, x ||| 0 = x from fun x => BitVec.or_zero]
  · rfl

/-- An entry taken into effect late: its payload, the arbiters without it, CHANGE OVERTAKEN (R73). -/
theorem takeLate_eq (now : Nat) : s.takeLate now e = { s with
    cal := (s.takeLate now e).cal
    profiles := (s.applyPayload e.payload).profiles
    chans := if e.ident ∈ s.cal.ring then s.chans.map (Channel.forgets e.ident) else s.chans
    att := { s.att with flags := s.att.flags ||| 0x0008 } } := by
  obtain ⟨t, ht⟩ : ∃ t, (s.modifyEntry e.ident fun e => { e with locked := true }) = t := ⟨_, rfl⟩
  have htring : t.cal.ring = s.cal.ring := ht ▸ rfl
  have happlied : t.applyPayload e.payload = { s with cal := t.cal, profiles := (s.applyPayload e.payload).profiles } := by
    subst ht
    cases e.payload <;> rfl
  have hfinished : (t.applyPayload e.payload).finishEntry e .overtaken = { s with
      cal := ((t.applyPayload e.payload).finishEntry e .overtaken).cal
      profiles := (s.applyPayload e.payload).profiles
      chans := if e.ident ∈ s.cal.ring then s.chans.map (Channel.forgets e.ident) else s.chans } := by
    refine (finishEntry_frame_chans .overtaken).trans ?_
    rw [applyPayload_cal, htring, happlied]
  unfold State.takeLate
  dsimp only
  rw [ht]
  cases hk : e.kind with
  | interruption =>
    have hplain : ∀ u : State, u.applyPayload e.payload = u := Kind.noEffect e.payload hk nofun
    rw [hplain] at hfinished
    rw [hplain s] at hfinished ⊢
    dsimp only
    split
    · rw [hfinished]
      rfl
    · have hleft : t.leaveRing e.ident = { s with
          cal := (t.leaveRing e.ident).cal
          chans := if e.ident ∈ s.cal.ring then s.chans.map (Channel.forgets e.ident) else s.chans } := by
        refine (leaveRing_frame_chans _ _).trans ?_
        rw [htring]
        subst ht
        rfl
      rw [hleft]
      rfl
  | offsetChange => dsimp only; rw [hfinished]; rfl
  | leapInsert => dsimp only; rw [hfinished]; rfl
  | leapDelete => dsimp only; rw [hfinished]; rfl
  | advisory => dsimp only; rw [hfinished]; rfl

/-- An entry whose instant is to come: the ring follows the state its times give (R75). -/
theorem recomputeEntry_eq (now : UtcSecond) : s.recomputeEntry now e = { s with
    cal := (s.recomputeEntry now e).cal
    chans := if e.ident ∈ s.cal.ring ∧ (e.stateAt now.minute).inRing = false then s.chans.map (Channel.forgets e.ident) else s.chans
    att := { s.att with flags := s.att.flags ||| if (e.stateAt now.minute).inRing = true ∧ e.ident ∉ s.cal.ring then 0x0001 else 0 } } := by
  unfold State.recomputeEntry
  dsimp only
  cases hin : (e.stateAt now.minute).inRing with
  | true =>
    rw [if_pos rfl, joinRing_frame_att]
    by_cases hr : e.ident ∈ s.cal.ring <;> simp [hr, State.modifyEntry]
  | false =>
    rw [if_neg Bool.false_ne_true, leaveRing_frame_chans]
    by_cases hr : e.ident ∈ s.cal.ring <;> simp [hr, State.modifyEntry]

end


/-! ### The step of the table -/

section
variable {now : UtcSecond} {s : State} {e : Entry}

theorem placeSweep_applies : (placeSweep now).applies e = true ↔ e.ahead = true ∧ e.instant ≤ now.minute := decide_eq_true_iff

theorem placeSweep_releases :
    (placeSweep now).releases e = true ↔ e.state = .inEffect ∧ (e.overtaken now.minute = true ∨ e.toCome now.minute = true) := decide_eq_true_iff

/-- A late entry is taken into effect as the table says (R73). -/
theorem takeLate_moved (h : s.cal.sound) (he : e ∈ s.cal.entries) (hahead : e.ahead = true) (hpast : e.instant ≤ now.minute) :
    (placeSweep now).Moved e s (s.takeLate now.minute e) := by
  have hcome : e.toCome now.minute = false := by rw [Entry.toCome_ahead hahead]; exact decide_eq_false (not_lt.mpr hpast)
  have hjoined := Entry.joined_not_toCome hcome
  have hover : e.overtaken now.minute = true := by rw [Entry.overtaken_ahead hahead]; exact decide_eq_true hpast
  have hleaves : (placeSweep now).leaves e = e.state.inRing := by
    change (e.state.inRing && !e.joined now.minute) = _
    rw [hjoined]
    simp
  have hcauses : (placeSweep now).causes e = 0x0008 := by
    refine (Entry.placeCauses_not_toCome hcome).trans ?_
    rw [if_pos hover]
  rw [takeLate_eq]
  refine ⟨fun k => ?_, fun n => ?_, by rw [hcauses], rfl, rfl⟩
  · rw [Sweep.onProfile, if_pos (placeSweep_applies.mpr ⟨hahead, hpast⟩)]
    exact applyPayload_get k e.payload s
  · rw [Sweep.onArbiter, hleaves, State.chan]
    dsimp only
    by_cases hr : e.ident ∈ s.cal.ring
    · rw [if_pos hr, if_pos ((h.ident_mem_ring he).mp hr)]
      exact Four.get_map _ _ _
    · rw [if_neg hr, if_neg fun hin => hr ((h.ident_mem_ring he).mpr hin)]
      rfl

/-- An entry to come takes the state its times give as the table says (R75). -/
theorem recomputeEntry_moved (h : s.cal.sound) (he : e ∈ s.cal.entries) (hcome : e.toCome now.minute = true) {t : State}
    (ht : t = { s with cal := t.cal }) (hring : t.cal.ring = s.cal.ring) : (placeSweep now).Moved e s (t.recomputeEntry now e) := by
  have hjoined := Entry.joined_toCome hcome
  have hinring := h.ident_mem_ring he
  have happlies : (placeSweep now).applies e ≠ true := fun ha =>
    absurd (of_decide_eq_true hcome).2 (not_lt.mpr (placeSweep_applies.mp ha).2)
  have hleaves : (placeSweep now).leaves e = true ↔ e.ident ∈ s.cal.ring ∧ (e.stateAt now.minute).inRing = false := by
    change (e.state.inRing && !e.joined now.minute) = true ↔ _
    rw [hjoined, hinring]
    simp
  have hcauses : (placeSweep now).causes e = if (e.stateAt now.minute).inRing = true ∧ e.ident ∉ s.cal.ring then 0x0001 else 0 := by
    refine (Entry.placeCauses_toCome hcome).trans (if_congr (and_congr_right fun _ => ?_) rfl rfl)
    rw [hinring, Bool.not_eq_true]
  rw [recomputeEntry_eq, hring]
  refine ⟨fun k => ?_, fun n => ?_, ?_, ?_, ?_⟩
  · rw [Sweep.onProfile, if_neg happlies, ht]
  · rw [Sweep.onArbiter, State.chan]
    dsimp only
    by_cases hl : e.ident ∈ s.cal.ring ∧ (e.stateAt now.minute).inRing = false
    · rw [if_pos hl, if_pos (hleaves.mpr hl), ht]
      exact Four.get_map _ _ _
    · rw [if_neg hl, if_neg fun hin => hl (hleaves.mp hin), ht]
      rfl
  · rw [hcauses, ht]
  · rw [ht]
  · rw [ht]

/-- What the procedure does with an entry ahead of its effect. -/
theorem placeEntry_ahead (hahead : e.ahead = true) :
    s.placeEntry now e = if e.instant ≤ now.minute then s.takeLate now.minute e else s.recomputeEntry now e := by
  unfold State.placeEntry
  rcases of_decide_eq_true hahead with hs | hs | hs <;> rw [hs]

theorem placeSweep_leaves (h : (placeSweep now).leaves e = true) : e.ahead = true := Entry.ahead_of_inRing (Bool.and_eq_true_iff.mp h).1

/-- An entry out of the ring and not ahead of its effect, unless it takes part in the procedure. -/
theorem Sweep.Moved.notAhead (hahead : e.ahead ≠ true) (hover : e.overtaken now.minute = false) (hcome : e.toCome now.minute = false) :
    (placeSweep now).Moved e s s := by
  refine .refl (fun ha => hahead (placeSweep_applies.mp ha).1) (fun hl => hahead (placeSweep_leaves hl)) ?_
  refine (Entry.placeCauses_not_toCome hcome).trans ?_
  rw [if_neg (by rw [hover]; exact Bool.false_ne_true)]

theorem placeSweep_releases_not (hover : e.overtaken now.minute = false) (hcome : e.toCome now.minute = false) :
    (placeSweep now).releases e ≠ true := fun hr => by
  obtain ⟨-, ho | hc⟩ := placeSweep_releases.mp hr
  · rw [hover] at ho; cases ho
  · rw [hcome] at hc; cases hc

/-- The procedure's step for an entry IN EFFECT is the table's (R74). -/
theorem replaceInEffect_step (h : s.cal.sound) (he : e ∈ s.cal.entries) (hstate : e.state = .inEffect) :
    (placeSweep now).Step e s (s.replaceInEffect now e) := by
  have hcal := replaceInEffect_cal h he hstate now
  have hahead : e.ahead ≠ true := fun ha => Entry.ahead_not_inEffect ha hstate
  have hframe := replaceInEffect_calendarOnly now e s
  have hcome := Entry.toCome_inEffect (now := now.minute) hstate
  have hover := Entry.overtaken_inEffect (now := now.minute) hstate
  unfold State.replaceInEffect at hcal hframe ⊢
  by_cases hended : e.outageEnd ≤ now.minute
  · rw [if_pos hended] at hcal hframe ⊢
    rw [decide_eq_true hended] at hover
    rw [decide_eq_false (not_lt.mpr (e.instant_le_outageEnd.trans hended))] at hcome
    have hr : (placeSweep now).releases e = true := placeSweep_releases.mpr ⟨hstate, .inl hover⟩
    have habsent : e.ident ∉ s.cal.ring := fun hi => hahead (Entry.ahead_of_inRing ((h.ident_mem_ring he).mp hi))
    obtain ⟨hprofiles, hchan, hraised, hraises, hevent⟩ := finishEntry_release habsent .overtaken .changeOvertaken
    refine ⟨hcal, fun k => ?_, fun n => ?_, ?_, fun k hk => hraises.stands hk, fun _ => hevent, by rw [hframe], by rw [hframe]⟩
    · rw [hprofiles, Sweep.onProfile, if_neg fun ha => hahead (placeSweep_applies.mp ha).1]
    · rw [hchan, Sweep.onChannel, if_pos hr, Sweep.onArbiter, if_neg fun hl => hahead (placeSweep_leaves hl)]
    · have hcauses : (placeSweep now).causes e = 0x0008 := by
        refine (Entry.placeCauses_not_toCome hcome).trans ?_
        rw [if_pos hover]
      rw [hraised, hcauses]
      rfl
  · rw [if_neg hended] at hcal ⊢
    rw [decide_eq_false hended] at hover
    by_cases hbegun : e.instant ≤ now.minute
    · rw [if_pos hbegun] at hcal ⊢
      rw [decide_eq_false (not_lt.mpr hbegun)] at hcome
      exact (Sweep.Moved.notAhead hahead hover hcome).step hcal (placeSweep_releases_not hover hcome)
    · rw [if_neg hbegun, release_cal] at hcal
      rw [if_neg hbegun]
      rw [decide_eq_true (not_le.mp hbegun)] at hcome
      exact (recomputeEntry_moved (t := s.modifyEntry e.ident fun e => { e with late := false }) h he hcome rfl rfl).release hcal
        (placeSweep_releases.mpr ⟨hstate, .inr hcome⟩)

/-- The procedure's step for an entry is the table's (R72). -/
theorem procedureEntry_step (h : s.cal.sound) (hnow : s.tb.time = some now) (he : e ∈ s.cal.entries) :
    (placeSweep now).Step e s (s.procedureEntry none e.ident) := by
  have hcal := procedureEntry_cal h he hnow none
  have hplace : s.procedureEntry none e.ident = s.placeEntry now e := by
    rw [procedureEntry_placeEntry hnow, State.onEntry, findEntry_ident h.holds.idents he]
  rw [hplace] at hcal ⊢
  by_cases hahead : e.ahead = true
  · have hr : (placeSweep now).releases e ≠ true := fun hr => Entry.ahead_not_inEffect hahead (placeSweep_releases.mp hr).1
    rw [placeEntry_ahead hahead] at hcal ⊢
    by_cases hpast : e.instant ≤ now.minute
    · rw [if_pos hpast] at hcal ⊢
      exact (takeLate_moved h he hahead hpast).step hcal hr
    · rw [if_neg hpast] at hcal ⊢
      have hcome : e.toCome now.minute = true := by rw [Entry.toCome_ahead hahead]; exact decide_eq_true (not_le.mp hpast)
      exact (recomputeEntry_moved h he hcome rfl rfl).step hcal hr
  · by_cases hstate : e.state = .inEffect
    · have hmove : s.placeEntry now e = s.replaceInEffect now e := by
        unfold State.placeEntry
        rw [hstate]
      rw [hmove]
      exact replaceInEffect_step h he hstate
    · have hkept : s.placeEntry now e = s := by
        unfold State.placeEntry
        cases hs : e.state with
        | done => rfl
        | withdrawn => rfl
        | inEffect => exact absurd hs hstate
        | scheduled => exact absurd (decide_eq_true (by simp [hs])) hahead
        | announcing => exact absurd (decide_eq_true (by simp [hs])) hahead
        | committed => exact absurd (decide_eq_true (by simp [hs])) hahead
      have hover : e.overtaken now.minute = false := decide_eq_false (by simp [hahead, hstate])
      have hcome : e.toCome now.minute = false := decide_eq_false (by simp [hahead, hstate])
      rw [hkept] at hcal ⊢
      exact (Sweep.Moved.notAhead hahead hover hcome).step hcal (placeSweep_releases_not hover hcome)

end


end Sys2Proof.Machine
end

section
/-! The discontinuity procedure over a sound calendar (R72 to R75). -/

namespace Sys2Proof.Machine

/-! ### What becomes of an entry -/

section
variable {now : UtcSecond} {e : Entry}

theorem Entry.replaced_ahead (h : e.ahead = true) :
    e.replaced none now = if e.instant ≤ now.minute then e.takenLate now.minute else some (e.recomputed now) := by
  unfold Entry.replaced
  rcases of_decide_eq_true h with hs | hs | hs <;> simp [hs]

theorem Entry.replaced_inEffect (h : e.state = .inEffect) : e.replaced none now =
    if e.outageEnd ≤ now.minute then e.finished .overtaken else if e.instant ≤ now.minute then some e
    else some (Entry.recomputed now { e with late := false }) := by
  unfold Entry.replaced
  rw [h]

theorem Entry.replaced_rest (h : e.ahead = false) (hs : e.state ≠ .inEffect) : e.replaced none now = some e := by
  have hno := of_decide_eq_false h
  unfold Entry.replaced
  cases hstate : e.state with
  | done => rfl
  | withdrawn => rfl
  | inEffect => exact absurd hstate hs
  | scheduled => exact absurd (.inl hstate) hno
  | announcing => exact absurd (.inr (.inl hstate)) hno
  | committed => exact absurd (.inr (.inr hstate)) hno

/-- An entry to come takes the state its times give (R75). -/
theorem Entry.replaced_toCome (h : e.toCome now.minute = true) : e.replaced none now = some { e with
    state := e.stateAt now.minute, locked := e.locked || e.joined now.minute, late := e.late && e.ahead
    leapExecuted := e.leapExecuted && decide (now.second = 60 ∧ now.minute + 1 = e.instant) } := by
  have hjoined := Entry.joined_toCome h
  have hinstant := not_le.mpr (of_decide_eq_true h).2
  have hmark : (e.leapExecuted && now.second == 60 && now.minute + 1 == e.instant) =
      (e.leapExecuted && decide (now.second = 60 ∧ now.minute + 1 = e.instant)) := by
    rw [Bool.and_assoc, Bool.decide_and]
    rfl
  by_cases hahead : e.ahead = true
  · rw [Entry.replaced_ahead hahead, if_neg hinstant, Entry.recomputed, hmark, hjoined, hahead, Bool.and_true]
  · have hstate : e.state = .inEffect := (of_decide_eq_true h).1.resolve_left hahead
    have hend : ¬e.outageEnd ≤ now.minute := fun ho => hinstant (e.instant_le_outageEnd.trans ho)
    rw [Entry.replaced_inEffect hstate, if_neg hend, if_neg hinstant, Bool.eq_false_iff.mpr hahead, Bool.and_false, ← hmark, hjoined]
    rfl

/-- An overtaken entry is IN EFFECT within its outage, and DONE otherwise (R73, R74). -/
theorem Entry.replaced_overtaken (h : e.overtaken now.minute = true) (hmarks : e.marksFit) : e.replaced none now =
    if e.kind = .interruption ∧ now.minute < e.outageEnd then some { e with state := .inEffect, locked := true, late := true }
    else if e.autoRetire = true then none
    else some { e with state := .done, locked := true, outcome := some .overtaken } := by
  obtain ⟨hlocked, -, -⟩ := hmarks
  rcases of_decide_eq_true h with ⟨hahead, hinstant⟩ | ⟨hstate, hend⟩
  · rw [Entry.replaced_ahead hahead, if_pos hinstant, Entry.takenLate]
    simp only [not_le, Entry.finished]
  · have hlock : e.locked = true := by
      by_contra hl
      rw [hlocked (Bool.eq_false_iff.mpr hl)] at hstate
      cases hstate
    rw [Entry.replaced_inEffect hstate, if_pos hend, if_neg fun hk => absurd hk.2 (not_lt.mpr hend), Entry.finished, ← hlock]

theorem Entry.replaced_kept (hover : e.overtaken now.minute = false) (hcome : e.toCome now.minute = false) : e.replaced none now = some e := by
  by_cases hahead : e.ahead = true
  · rw [Entry.overtaken_ahead hahead] at hover
    rw [Entry.toCome_ahead hahead] at hcome
    exact absurd (not_le.mp (of_decide_eq_false hover)) (of_decide_eq_false hcome)
  · by_cases hstate : e.state = .inEffect
    · rw [Entry.overtaken_inEffect hstate] at hover
      rw [Entry.toCome_inEffect hstate] at hcome
      rw [Entry.replaced_inEffect hstate, if_neg (of_decide_eq_false hover), if_pos (not_lt.mp (of_decide_eq_false hcome))]
    · exact Entry.replaced_rest (Bool.eq_false_iff.mpr hahead) hstate

/-- What becomes of an entry in the procedure, by its conditions (R72 to R75). -/
theorem Entry.replaced_eq (hmarks : e.marksFit) : e.replaced none now =
    if e.toCome now.minute = true then some { e with
      state := e.stateAt now.minute, locked := e.locked || e.joined now.minute, late := e.late && e.ahead
      leapExecuted := e.leapExecuted && decide (now.second = 60 ∧ now.minute + 1 = e.instant) }
    else if e.overtaken now.minute = true then
      if e.kind = .interruption ∧ now.minute < e.outageEnd then some { e with state := .inEffect, locked := true, late := true }
      else if e.autoRetire = true then none
      else some { e with state := .done, locked := true, outcome := some .overtaken }
    else some e := by
  by_cases hcome : e.toCome now.minute = true
  · rw [if_pos hcome, Entry.replaced_toCome hcome]
  · rw [if_neg hcome]
    by_cases hover : e.overtaken now.minute = true
    · rw [if_pos hover, Entry.replaced_overtaken hover hmarks]
    · rw [if_neg hover, Entry.replaced_kept (Bool.eq_false_iff.mpr hover) (Bool.eq_false_iff.mpr hcome)]

/-- The entries of the ring after the procedure (R61). -/
theorem placeSweep_rings : (placeSweep now).rings e = e.joined now.minute := by
  change ((e.replaced none now).any fun x => x.state.inRing) = _
  have hout : ∀ o, ((e.finished o).any fun x => x.state.inRing) = false := fun o => by
    unfold Entry.finished
    split <;> rfl
  by_cases hcome : e.toCome now.minute = true
  · rw [Entry.replaced_toCome hcome, Entry.joined_toCome hcome]
    rfl
  · have hcome := Bool.eq_false_iff.mpr hcome
    rw [Entry.joined_not_toCome hcome]
    by_cases hahead : e.ahead = true
    · have hinstant : e.instant ≤ now.minute := by
        rw [Entry.toCome_ahead hahead] at hcome
        exact not_lt.mp (of_decide_eq_false hcome)
      rw [Entry.replaced_ahead hahead, if_pos hinstant, Entry.takenLate]
      split
      · rfl
      · unfold Entry.finished
        split <;> rfl
    · have hring : e.state.inRing = false := Bool.eq_false_iff.mpr fun hr => hahead (Entry.ahead_of_inRing hr)
      by_cases hover : e.overtaken now.minute = true
      · have hstate : e.state = .inEffect := by
          rcases of_decide_eq_true hover with ⟨ha, -⟩ | ⟨hs, -⟩
          · exact absurd ha hahead
          · exact hs
        have hend := hover
        rw [Entry.overtaken_inEffect hstate] at hend
        rw [Entry.replaced_inEffect hstate, if_pos (of_decide_eq_true hend)]
        exact hout _
      · rw [Entry.replaced_kept (Bool.eq_false_iff.mpr hover) hcome]
        exact hring

theorem Entry.placeCauses_overtaken (now : Nat) (e : Entry) : (e.placeCauses now).getLsbD 3 = e.overtaken now := by
  unfold Entry.placeCauses
  cases e.overtaken now <;> cases e.joined now <;> cases e.state.inRing <;> rfl

theorem Entry.placeCauses_joined (now : Nat) (e : Entry) : (e.placeCauses now).getLsbD 0 = (e.joined now && !e.state.inRing) := by
  unfold Entry.placeCauses
  cases e.overtaken now <;> cases e.joined now <;> cases e.state.inRing <;> rfl

theorem Entry.toCome_stands {n : Nat} (h : e.toCome n = true) : e.state ≠ .withdrawn := by
  rcases (of_decide_eq_true h).1 with ha | hs
  · exact Entry.ahead_stands ha
  · rw [hs]; simp

theorem Entry.joined_stands {n : Nat} (h : e.joined n = true) : e.state ≠ .withdrawn := Entry.toCome_stands (of_decide_eq_true h).1

theorem Entry.overtaken_stands {n : Nat} (h : e.overtaken n = true) : e.state ≠ .withdrawn := by
  rcases of_decide_eq_true h with ⟨ha, -⟩ | ⟨hs, -⟩
  · exact Entry.ahead_stands ha
  · rw [hs]; simp

end

/-! ### The procedure over a sound calendar -/

/-- The procedure up to the arbiters is the table's pass over the entries that stand. -/
theorem discontinuity_swept {s : State} (h : s.cal.sound) {now : UtcSecond} (hnow : s.tb.time = some now) :
    ∃ u, (placeSweep now).Swept s.standing { s with cal := { s.cal with entries := s.standing } } u ∧
      s.discontinuity none = { u with chans := u.chans.map Channel.emptyArbiter } := by
  have hremoved := removeWithdrawn_standing h
  obtain ⟨hsound, -⟩ := removeWithdrawn_carriesTo s h
  rw [hremoved] at hsound
  refine ⟨_, ?_, rfl⟩
  rw [hremoved]
  exact Sweep.fold_swept (b := s.tb)
    (fun e x hx => ⟨(Entry.replaced_carries hx).ident, (Entry.replaced_carries hx).instant⟩)
    (fun t e ht hb he => procedureEntry_step ht (by rw [hb]; exact hnow) he) s.standing (standing_nodup h) hsound rfl fun e he => he


/-! ### A boundary pass right after the procedure -/

/-- The boundary pass of the minute leaves the entry as it is. -/
structure Entry.Settled (now : Nat) (e : Entry) : Prop where
  stands : e.state ≠ .withdrawn
  passed : e.passed now = some e
  takes : e.takes now = false

theorem Entry.settled_of {now : Nat} {e : Entry} (hstands : e.state ≠ .withdrawn) (hopens : e.opens now = false) (htakes : e.takes now = false)
    (hends : e.ends now = false) (hcommit : ¬(e.state = .announcing ∧ e.commitPoint ≤ now)) : e.Settled now := by
  refine ⟨hstands, ?_, htakes⟩
  rw [Entry.passed_rest (by rw [htakes]; exact Bool.false_ne_true) (by rw [hends]; exact Bool.false_ne_true), hopens, Bool.or_false]
  simp only [Bool.false_eq_true, false_or, if_neg hcommit, if_false]

/-- An entry that neither waits in the calendar nor stands at the end of its outage is settled. -/
theorem Entry.settled_past {now : Nat} {e : Entry} (hahead : e.ahead = false) (hstands : e.state ≠ .withdrawn)
    (hend : e.state = .inEffect → e.outageEnd ≠ now) : e.Settled now := by
  have hno := of_decide_eq_false hahead
  have hopens : e.opens now = false := decide_eq_false fun h => hno (.inl h.1)
  have htakes : e.takes now = false := decide_eq_false fun h => by
    rcases h.1 with ho | ha | hc
    · rw [hopens] at ho; cases ho
    · exact hno (.inr (.inl ha))
    · exact hno (.inr (.inr hc))
  refine Entry.settled_of hstands hopens htakes (decide_eq_false fun h => ?_) fun h => hno (.inr (.inl h.1))
  rcases h.1 with hs | ⟨ht, -⟩
  · exact hend hs h.2
  · rw [htakes] at ht; cases ht

/-- What the procedure leaves of an entry is settled at its minute. -/
theorem Entry.replaced_settled {now : UtcSecond} {e y : Entry} (hmarks : e.marksFit) (hstands : e.state ≠ .withdrawn) (h : y ∈ e.replaced none now) :
    y.Settled now.minute := by
  rw [Entry.replaced_eq hmarks] at h
  split at h
  · next hcome =>
    have hinstant := (of_decide_eq_true hcome).2
    cases h
    have hstate : e.stateAt now.minute ≠ .inEffect := e.stateAt_ne_inEffect _
    have hopens : ¬(e.stateAt now.minute = .scheduled ∧ e.announceStart ≤ now.minute) := by
      rintro ⟨hs, ha⟩
      unfold Entry.stateAt at hs
      rw [if_pos ha] at hs
      split at hs <;> cases hs
    have hcommit : ¬(e.stateAt now.minute = .announcing ∧ e.commitPoint ≤ now.minute) := by
      rintro ⟨hs, hc⟩
      rw [Entry.stateAt, if_pos hc] at hs
      cases hs
    refine Entry.settled_of ?_ (decide_eq_false hopens) (decide_eq_false fun ht => ?_) (decide_eq_false fun he => ?_) hcommit
    · unfold Entry.stateAt
      split
      · exact EntryState.noConfusion
      · split <;> exact EntryState.noConfusion
    · exact absurd hinstant (not_lt.mpr (le_of_eq ht.2))
    · rcases he.1 with hs | ⟨ht, -⟩
      · exact hstate hs
      · exact absurd hinstant (not_lt.mpr (le_of_eq (of_decide_eq_true ht).2))
  · next hcome =>
    split at h
    · split at h
      · next hk =>
        cases h
        exact Entry.settled_past rfl nofun fun _ ho => absurd hk.2 (not_lt.mpr (le_of_eq ho))
      · split at h
        · cases h
        · cases h
          exact Entry.settled_past rfl nofun nofun
    · next hover =>
      cases h
      have hahead : e.ahead = false := by
        by_contra ha
        rw [Entry.overtaken_ahead (Bool.not_eq_false _ ▸ ha)] at hover
        rw [Entry.toCome_ahead (Bool.not_eq_false _ ▸ ha)] at hcome
        exact hcome (decide_eq_true (not_le.mp fun hi => hover (decide_eq_true hi)))
      refine Entry.settled_past hahead hstands fun hs ho => hover ?_
      rw [Entry.overtaken_inEffect hs]
      exact decide_eq_true (le_of_eq ho)

theorem Calendar.eq_of_parts {c d : Calendar} (hentries : c.entries = d.entries) (hring : c.ring = d.ring) (hnext : c.nextIdent = d.nextIdent) :
    c = d := by
  cases c; cases d
  exact congr (congrArg₂ Calendar.mk hentries hring) hnext

/-- A boundary pass over settled entries keeps the calendar and the profiles. -/
theorem boundaryPass_settled {s : State} (h : s.cal.sound) {now : Nat} (hall : ∀ e ∈ s.cal.entries, e.Settled now) : s.SameBook (s.boundaryPass now) := by
  have hswept := boundaryPass_swept h now
  have hrings : ∀ e ∈ s.cal.entries, (passSweep now).rings e = e.state.inRing := fun e he => by
    change ((e.passed now).any fun x => x.state.inRing) = _
    rw [(hall e he).passed]
    rfl
  have hentries : (s.boundaryPass now).cal.entries = s.cal.entries := by
    rw [swept_entries hswept]
    have hsome : ∀ e ∈ s.cal.entries, (if e.state = .withdrawn then none else (passSweep now).becomes e) = some e := fun e he => by
      rw [if_neg (hall e he).stands]
      exact (hall e he).passed
    rw [List.filterMap_congr hsome, List.filterMap_some]
  have hring : (s.boundaryPass now).cal.ring = s.cal.ring := by
    rw [swept_ring h hswept (stays := fun _ => True) (joins := fun _ => False) (keeps := fun _ => True)
      (fun e he hr => by rw [hrings e he, hr]; simp) (fun _ _ _ => Iff.rfl) fun e he => ?_]
    · simp
    · rw [hrings e he, h.ident_mem_ring he]
      tauto
  refine ⟨?_, Four.ext_get fun k => ?_⟩
  · exact Calendar.eq_of_parts hentries hring hswept.next
  · rw [swept_profiles hswept k (f := fun p e => if e.state = .withdrawn then p else (passSweep now).onProfile k p e) fun _ _ => rfl]
    refine List.foldlRecOn (motive := fun p => p = s.profiles.get k) _ _ rfl fun p hp e he => ?_
    have htakes : (passSweep now).applies e ≠ true := by
      rw [show (passSweep now).applies e = e.takes now from rfl, (hall e he).takes]
      exact Bool.false_ne_true
    rw [hp, Sweep.onProfile, if_neg htakes, ite_self]

end Sys2Proof.Machine
end

section
/-! SET TIME: its refusals, and the state it hands on (R15). -/

namespace Sys2Proof.Machine

/-! ### The request -/

theorem exec_setTime {s : State} (h : s.listens) (d : Nat) (y mo da h' mi sec : Byte) :
    exec (.setTime (.of d [y, mo, da, h', mi, sec])) s =
      .next (ownSetTime [y, mo, da, h', mi, sec] (s.handed (.of d [y, mo, da, h', mi, sec]))) :=
  congrArg Host.Outcome.next (takeRequest_of h rfl)

theorem ownSetTime_refused {y mo d h mi sec : Byte} (hbad : ∀ m k, instant? y mo d h mi = some m → inRange? 0 59 sec.toNat ≠ some k) (s : State) :
    ownSetTime [y, mo, d, h, mi, sec] s = s.refuse 0x11 .badParameter := by
  simp only [ownSetTime]

theorem ownSetTime_named {y mo d h mi sec : Byte} {m k : Nat} (hm : instant? y mo d h mi = some m) (hk : inRange? 0 59 sec.toNat = some k)
    (s : State) : ownSetTime [y, mo, d, h, mi, sec] s =
      if s.tb.state = .locked then s.refuse 0x11 .wrongState
      else if s.anyHoldsTime then s.refuse 0x11 .channelsOnAir
      else (({ s with tb := { s.tb with state := .free } }).place ⟨m, k⟩).answer 0x11 .done [] := by
  simp only [ownSetTime, hm, hk]

/-- A SET TIME's operands name a minute and a second (R15). -/
structure SetTimeNames (y mo da h mi sec : Byte) (u : UtcSecond) : Prop where
  instant : instant? y mo da h mi = some u.minute
  second : inRange? 0 59 sec.toNat = some u.second

/-- The state that SET TIME places: the period taken, the timebase FREE. -/
def State.freed (p : Period) (s : State) : State := { s.handed p with tb := { (s.handed p).tb with state := .free } }

theorem handed_anyHoldsTime (p : Period) (s : State) : (s.handed p).anyHoldsTime = s.anyHoldsTime := rfl

/-- A SET TIME that is not refused places the second it names. -/
theorem setTime_placed {s : State} (h : s.listens) (d : Nat) {y mo da h' mi sec : Byte} {u : UtcSecond} (hu : SetTimeNames y mo da h' mi sec u)
    (hlocked : s.tb.state ≠ .locked) (hheld : s.anyHoldsTime ≠ true) : exec (.setTime (.of d [y, mo, da, h', mi, sec])) s =
      .next (((s.freed (.of d [y, mo, da, h', mi, sec])).place u).answer 0x11 .done []) := by
  have hlocked' : (s.handed (.of d [y, mo, da, h', mi, sec])).tb.state ≠ .locked := hlocked
  rw [exec_setTime h, ownSetTime_named hu.instant hu.second, if_neg hlocked', handed_anyHoldsTime, if_neg hheld, ← State.freed]

/-! ### The state in which the placed second is handed on -/

/-- The placement before the grade and the procedure: the measurement aborted, the label placed, the QUIET channels without their decisions
(R15, R150, R175). -/
def State.relabelled (s : State) (u : UtcSecond) : State :=
  let t := s.abortMeasurement.placeLabel u
  { t with
    tb := { t.tb with remainder := 0, measured := none, phaseError := 0, holdoverStart := none }
    chans := t.chans.map Channel.placed }

theorem placedAt_eq (s : State) (u : UtcSecond) : s.placedAt u = ((s.relabelled u).deriveGrade.discontinuity none).placeChannels u := rfl

theorem relabelled_tb (s : State) (u : UtcSecond) : (s.relabelled u).tb =
    { s.tb with time := some u, elapsed := 0, remainder := 0, measured := none, phaseError := 0, holdoverStart := none } := by
  change ({ s.abortMeasurement.tb with
    time := some u, elapsed := 0, remainder := 0, measured := none, phaseError := 0, holdoverStart := none } : Timebase) = _
  rw [abortMeasurement_tb]

theorem relabelled_book (s : State) (u : UtcSecond) : s.SameBook (s.relabelled u) := by
  refine ⟨?_, ?_⟩
  · change s.abortMeasurement.cal = _
    rw [abortMeasurement_frame]
  · change s.abortMeasurement.profiles = _
    rw [abortMeasurement_frame]

theorem deriveGrade_book (s : State) : s.SameBook s.deriveGrade := by
  rw [deriveGrade_frame]
  exact ⟨rfl, rfl⟩

theorem graded_time (s : State) (u : UtcSecond) : (s.relabelled u).deriveGrade.tb.time = some u := by
  rw [deriveGrade_tb, relabelled_tb]

theorem placeChannels_book (u : UtcSecond) (s : State) : s.SameBook (s.placeChannels u) := ⟨rfl, rfl⟩

theorem placedAt_tb (s : State) (u : UtcSecond) : (s.placedAt u).tb = (s.relabelled u).deriveGrade.tb := by
  rw [placedAt_eq, placeChannels_tb, discontinuity_none_tb]

theorem place_time (u : UtcSecond) (s : State) : (s.place u).tb.time = some u := by
  obtain ⟨-, -, -, -, htime, -⟩ := handOn_tb_fields u (s.placedAt u)
  rw [place_eq, htime, placedAt_tb, graded_time]

/-- The placement runs the procedure at the second it places (R15, R72). -/
theorem placedAt_book {s t : State} {u : UtcSecond} (hbook : t.SameBook s) (ht : t.tb.time = some u) :
    (t.discontinuity none).SameBook (s.placedAt u) := by
  rw [placedAt_eq]
  exact (discontinuity_sameBook ((hbook.trans (relabelled_book s u)).trans (deriveGrade_book _)) ht (graded_time s u)).trans (placeChannels_book u _)

/-- The second that a placement begins, where it begins a minute, finds every entry settled (R64, R72). -/
theorem place_book {s t : State} {u : UtcSecond} (hsound : s.cal.sound) (hmarks : s.cal.marksFit) (hbook : t.SameBook s) (ht : t.tb.time = some u) :
    (t.discontinuity none).SameBook (s.place u) := by
  have hplaced := placedAt_book hbook ht
  rw [place_eq]
  by_cases hzero : u.second = 0
  · refine State.SameBook.trans ?_ (handOn_boundaryPass hzero hplaced)
    have hcal : t.cal.sound := by rw [← hbook.cal]; exact hsound
    obtain ⟨v, hswept, hdone⟩ := discontinuity_swept hcal ht
    have hsettled : ∀ e ∈ (t.discontinuity none).cal.entries, e.Settled u.minute := fun e he => by
      rw [hdone] at he
      replace he : e ∈ v.cal.entries := he
      rw [swept_entries hswept, List.mem_filterMap] at he
      obtain ⟨x, hx, hxe⟩ := he
      split at hxe
      · cases hxe
      · next hstands =>
        rw [← hbook.cal] at hx
        exact Entry.replaced_settled (hmarks x hx) hstands hxe
    exact boundaryPass_settled (discontinuity_carriesTo none t hcal).1 hsettled
  · exact hplaced.trans (handOn_sameBook hzero _)

/-- Settles O35: the procedure over a sound calendar by its table; SET TIME runs it at the second it places. -/
theorem procedurePlacesEveryEntry : Obligations.ProcedurePlacesEveryEntry := by
  refine ⟨fun now s hsound hmarks hnow => ?_, ?_⟩
  · intro ahead overtaken toCome stands joined placed t
    have hahead : ∀ e, ahead e ↔ e.ahead = true := fun e => decide_eq_true_iff.symm
    have hover : ∀ e, overtaken e ↔ e.overtaken now.minute = true := fun e => by
      rw [Entry.overtaken, decide_eq_true_iff, ← hahead]
    have hcome : ∀ e, toCome e ↔ e.toCome now.minute = true := fun e => by
      rw [Entry.toCome, decide_eq_true_iff, ← hahead]
    have hjoined : ∀ e, joined e ↔ e.joined now.minute = true := fun e => by
      rw [Entry.joined, decide_eq_true_iff, ← hcome]
      exact Iff.rfl
    have hnodup := standing_nodup hsound
    obtain ⟨u, hswept, hdone⟩ := discontinuity_swept hsound hnow
    have ht : t = { u with chans := u.chans.map Channel.emptyArbiter } := hdone
    refine ⟨?entries, ?next, ?ring, fun k => ?profiles, ?overtaken, ?announcing, fun n => ?channels, ?timebase⟩
    case entries =>
      rw [ht]
      refine (swept_entries hswept).trans (List.filterMap_congr fun e he => ?_)
      have hbecomes : (placeSweep now).becomes e = e.replaced none now := rfl
      rw [hbecomes, Entry.replaced_eq (hmarks e he)]
      simp only [placed, hahead, hover, hcome, hjoined, Bool.decide_eq_true]
      rfl
    case next => rw [ht]; exact hswept.next
    case ring =>
      rw [ht]
      refine swept_ring hsound hswept (stays := fun e => e.joined now.minute = true) (fun e _ _ => by rw [placeSweep_rings]) (fun e he _ => ?_)
        fun e he => ?_
      · constructor
        · rintro ⟨x, hx, hi, hj⟩
          rw [entry_eq_of_ident hsound.holds.idents hx he hi] at hj
          exact (hjoined e).mp hj
        · exact fun hj => ⟨e, he, rfl, (hjoined e).mpr hj⟩
      · rw [placeSweep_rings, hjoined]
        exact ⟨fun h => h.2, fun h => ⟨Entry.joined_stands h.1, h⟩⟩
    case profiles =>
      rw [ht]
      refine swept_profiles hswept k fun p e => ?_
      have happlies : (placeSweep now).onProfile k p e = if e.ahead = true ∧ e.instant ≤ now.minute then e.payload.onProfile k p else p :=
        if_congr placeSweep_applies rfl rfl
      rw [happlies]
      simp only [hahead]
      by_cases hw : e.state = .withdrawn
      · have hno : e.ahead ≠ true := fun ha => Entry.ahead_stands ha hw
        rw [if_pos hw]
        cases e.payload <;> simp [hno]
      · rw [if_neg hw]
        by_cases hlate : e.ahead = true ∧ e.instant ≤ now.minute
        · cases e.payload <;> simp [hlate, Payload.onProfile]
        · rw [if_neg hlate]
          cases e.payload <;> simp [hlate]
    case overtaken =>
      rw [ht]
      refine (hswept.raised 3 rfl).trans (congrArg (s.att.flags.getLsbD 3 || ·) ?_)
      rw [Bool.eq_iff_iff, decide_eq_true_iff]
      refine standing_any (fun e => ?_) fun e he => Entry.overtaken_stands ((hover e).mp he)
      rw [hover]
      exact Bool.eq_iff_iff.mp (Entry.placeCauses_overtaken _ e)
    case announcing =>
      rw [ht]
      refine (hswept.raised 0 rfl).trans (congrArg (s.att.flags.getLsbD 0 || ·) ?_)
      rw [Bool.eq_iff_iff, decide_eq_true_iff]
      refine (standing_any (P := fun e => joined e ∧ e.state.inRing = false) (fun e => ?_) fun e he => Entry.joined_stands ((hjoined e).mp he.1)).trans ?_
      · rw [hjoined]
        exact (Bool.eq_iff_iff.mp (Entry.placeCauses_joined _ e)).trans (by simp)
      · refine exists_congr fun e => and_congr_right fun he => and_congr_right fun _ => ?_
        rw [hsound.ident_mem_ring he, Bool.not_eq_true]
    case channels =>
      have hchan : t.chan n = (s.standing.foldl ((placeSweep now).onChannel (State.resumeMoment n { s with
          cal := { s.cal with entries := s.standing } }) s.ret.runSeconds) (s.chan n)).emptyArbiter := by
        rw [ht]
        exact (Four.get_map _ _ _).trans (congrArg Channel.emptyArbiter (hswept.chan n))
      generalize State.resumeMoment n { s with cal := { s.cal with entries := s.standing } } = start at hchan
      refine ⟨?_, fun e he hstate hgone hheld hby => ?_⟩
      · rw [hchan]
        refine (congrArg (fun a : Arbiter => ({ inService := none, stack := [], mark := a.mark } : Arbiter)) (Sweep.fold_arbiter _ _)).trans ?_
        rfl
      · have hmem : e ∈ s.standing := mem_standing.mpr ⟨he, by rw [hstate]; simp⟩
        have hr : (placeSweep now).releases e = true := placeSweep_releases.mpr ⟨hstate, hgone.imp (hover e).mp (hcome e).mp⟩
        rw [hchan]
        refine ⟨fun hlen => ?_, fun hlen => ?_⟩
        · obtain ⟨hs, hh, -⟩ := Sweep.fold_resumes (start := start) (now := s.ret.runSeconds) hnodup hmem hr ⟨hheld, hby, hlen⟩
          exact ⟨hs, hh⟩
        · obtain ⟨hs, hb, hd, -⟩ := Sweep.fold_defers (start := start) (now := s.ret.runSeconds) hnodup hmem hr hheld hby hlen
          exact ⟨hs.trans hheld, hb, hd⟩
    case timebase => rw [ht]; exact hswept.tb
  · intro d y mo da h mi sec s hlistens hsound hmarks hlocked hfree hy hmo hmo' hda hda' hh hmi hsec now moved
    have hnamed : SetTimeNames y mo da h mi sec now :=
      ⟨instant?_eq_some_iff.mpr ⟨⟨hy, ⟨hmo, hmo', hda, hda'⟩, hh, hmi⟩, rfl⟩, inRange?_eq_some_iff.mpr ⟨⟨Nat.zero_le _, hsec⟩, rfl⟩⟩
    have hheld : s.anyHoldsTime ≠ true := fun hheld => by
      obtain ⟨n, hn⟩ := anyHoldsTime_iff.mp hheld
      obtain ⟨hair, hcued, hresuming⟩ := hfree n
      exact hn.elim hair fun hn => hn.elim hcued hresuming
    have hbook := place_book (s := s.freed (.of d [y, mo, da, h, mi, sec])) (t := moved) (u := now) hsound hmarks ⟨rfl, rfl⟩ rfl
    refine ⟨_, setTime_placed hlistens d hnamed hlocked hheld, ?_⟩
    rw [answer_eq]
    exact ⟨place_time now _, hbook.cal, hbook.profiles⟩


end Sys2Proof.Machine
end

section
/-! SET TIME: the second it places, and what a QUIET channel keeps of it (R15, R150). -/

namespace Sys2Proof.Machine

/-! ### A channel that no entry holds or claims, through the procedure -/

section
variable {n : Fin 4}

theorem recomputeEntry_keepsAwaiting (now : UtcSecond) (e : Entry) (s : State) : s.KeepsAwaiting n (s.recomputeEntry now e) := by
  unfold State.recomputeEntry
  dsimp only
  split
  · exact (modifyEntry_keepsAwaiting n e.ident _ s).trans (joinRing_keepsAwaiting n e.ident _)
  · exact (modifyEntry_keepsAwaiting n e.ident _ s).trans (leaveRing_keepsAwaiting n e.ident _)

theorem takeLate_keepsAwaiting (now : Nat) (e : Entry) (s : State) : s.KeepsAwaiting n (s.takeLate now e) := by
  rw [takeLate_eq]
  refine .of_same rfl rfl ?_ fun h => ?_
  · unfold State.chan
    dsimp only
    split
    · rw [Four.get_map]
      rfl
    · rfl
  · dsimp only
    rw [BitVec.getLsbD_or, h, Bool.true_or]

theorem replaceInEffect_keepsAwaiting (now : UtcSecond) (e : Entry) (s : State) : s.KeepsAwaiting n (s.replaceInEffect now e) := by
  unfold State.replaceInEffect
  split
  · exact ((finishEntry_keepsAwaiting n e _ s).trans (release_keepsAwaiting n e.ident _)).trans (raise_keepsAwaiting n _ _)
  · split
    · exact .of_eq rfl rfl rfl rfl
    · exact ((modifyEntry_keepsAwaiting n e.ident _ s).trans (recomputeEntry_keepsAwaiting now e _)).trans (release_keepsAwaiting n e.ident _)

/-- A property of a move that the procedure's moves have, each with its state. -/
theorem placeEntry_cases {P : State → State → Prop} (hrefl : ∀ s, P s s) {now : UtcSecond} {e : Entry}
    (hlate : ∀ s : State, P s (s.takeLate now.minute e)) (hback : ∀ s : State, P s (s.recomputeEntry now e))
    (hin : ∀ s : State, P s (s.replaceInEffect now e)) (s : State) : P s (s.placeEntry now e) := by
  have hahead : P s (if e.instant ≤ now.minute then s.takeLate now.minute e else s.recomputeEntry now e) := by
    split
    · exact hlate s
    · exact hback s
  unfold State.placeEntry
  cases e.state with
  | done => exact hrefl s
  | withdrawn => exact hrefl s
  | inEffect => exact hin s
  | scheduled => exact hahead
  | announcing => exact hahead
  | committed => exact hahead

theorem placeEntry_keepsAwaiting (now : UtcSecond) (e : Entry) (s : State) : s.KeepsAwaiting n (s.placeEntry now e) :=
  placeEntry_cases (fun _ => .of_eq rfl rfl rfl rfl) (takeLate_keepsAwaiting now.minute e) (recomputeEntry_keepsAwaiting now e)
    (replaceInEffect_keepsAwaiting now e) s

/-- The procedure, at whatever station second. -/
theorem discontinuity_keepsAwaiting {s : State} {now : UtcSecond} (h : s.tb.time = some now) : s.KeepsAwaiting n (s.discontinuity none) := by
  rw [discontinuity_eq h]
  have hplaced : s.KeepsAwaiting n (s.placeEntries now) :=
    (foldl_keepsAwaiting (fun s (e : Entry) => removeEntry_keepsAwaiting n e.ident s) _ s).trans
      (foldl_keepsAwaiting (fun s i => onEntry_keepsAwaiting (placeEntry_keepsAwaiting now) i s) _ _)
  refine hplaced.trans (.of_same rfl rfl ?_ id)
  unfold State.chan
  rw [Four.get_map]
  rfl

end

/-! ### A QUIET channel without decisions -/

/-- A QUIET channel that holds no staged frame, claim or decision. -/
structure Channel.Undecided (c : Channel) : Prop where
  quiet : c.state = .quiet
  unheld : c.holdPending = false
  uncancelled : c.claimCancelled = false
  unstaged : c.staged = none
  unclaimed : c.claim = none
  undecided : c.quietDecided = false

namespace Channel.Undecided

theorem same {c d : Channel} (h : c.Undecided) (hd : c.SameButArbiter d) : d.Undecided := by
  obtain ⟨hquiet, hunheld, huncancelled, hunstaged, hunclaimed, hundecided⟩ := h
  rw [hd]
  exact ⟨hquiet, hunheld, huncancelled, hunstaged, hunclaimed, hundecided⟩

theorem keeps {n : Fin 4} {s t : State} (h : (s.chan n).Undecided) (ht : s.KeepsAwaiting n t) : (t.chan n).Undecided :=
  h.same (ht.inert (by rw [h.quiet]; simp) h.unclaimed)

theorem of_quiet {c : Channel} (h : c.state = .quiet) : c.placed.Undecided := by
  unfold Channel.placed
  rw [if_pos h]
  exact ⟨h, rfl, rfl, rfl, rfl, rfl⟩

end Channel.Undecided

theorem relabelled_undecided {n : Fin 4} {s : State} (h : (s.chan n).state = .quiet) (u : UtcSecond) : ((s.relabelled u).chan n).Undecided := by
  have hchan : (s.relabelled u).chan n = (s.abortMeasurement.chan n).placed := Four.get_map _ _ _
  have hquiet : (s.abortMeasurement.chan n).state = .quiet := by
    rw [abortMeasurement_chan]
    split
    · rw [Channel.cutShort, if_neg (by rw [h]; simp), h]
    · exact h
  rw [hchan]
  exact .of_quiet hquiet

/-- A QUIET channel holds no decision when a placed second is handed on (R150). -/
theorem placedAt_undecided {n : Fin 4} {s : State} (h : (s.chan n).state = .quiet) (u : UtcSecond) : ((s.placedAt u).chan n).Undecided := by
  obtain ⟨t, ht⟩ : ∃ t, (s.relabelled u).deriveGrade = t := ⟨_, rfl⟩
  have hgraded : (t.chan n).Undecided := by
    rw [← ht, deriveGrade_frame]
    exact relabelled_undecided h u
  have htime : t.tb.time = some u := by rw [← ht, graded_time]
  obtain ⟨hquiet, hunheld, huncancelled, hunstaged, hunclaimed, hundecided⟩ := hgraded.keeps (discontinuity_keepsAwaiting htime)
  rw [placedAt_eq, ht]
  have hchan : ∀ x : State, (x.placeChannels u).chan n = { x.chan n with nextSecond := some (x.channelSecondNow u (x.chan n)) } := fun x =>
    Four.get_map _ _ _
  rw [hchan]
  exact ⟨hquiet, hunheld, huncancelled, hunstaged, hunclaimed, hundecided⟩

/-! ### The start of the second -/

/-- Away from a composition instant nothing is decided. -/
theorem handOn_undecided {n : Fin 4} {s : State} (h : (s.chan n).Undecided) {u : UtcSecond} (hu : u.second ≠ 50) : ((s.handOn u).chan n).Undecided := by
  have hbegun : (s.evaluate.setLength.chan n).Undecided := by
    rw [setLength_frame, evaluate_frame]
    exact h
  unfold State.handOn
  dsimp only
  by_cases hzero : u.second = 0
  · rw [if_pos hzero]
    have hpassed := hbegun.keeps (boundaryPass_keepsAwaiting n u.minute _)
    have hkept := testDeferred_each_chan n (s.evaluate.setLength.boundaryPass u.minute)
    rw [Channel.testedDeferred, if_neg fun hd => by rw [hpassed.quiet] at hd; cases hd.1] at hkept
    unfold State.minuteBoundary
    rw [hkept]
    exact hpassed
  · rw [if_neg hzero, if_neg hu]
    exact hbegun

/-- What a QUIET channel without decisions holds after a composition instant: at most one, for the minute that follows (R147). -/
theorem compositionInstant_undecided {n : Fin 4} {s : State} (h : (s.chan n).Undecided) {now : Nat} {c : Channel}
    (hc : (s.compositionInstant now).chan n = c) :
    c.state = .quiet ∧ c.holdPending = false ∧ c.claimCancelled = false ∧
      (∀ f, c.staged = some f → f.occupied = now + 1 ∧ c.claim = none ∧ c.quietDecided = false) ∧ ∀ id, c.claim = some id → c.quietDecided = false := by
  obtain ⟨hquiet, hunheld, huncancelled, hunstaged, hunclaimed, hundecided⟩ := h
  have hkeys : (s.chan n).wouldKey ⟨now, 50, 0⟩ = true := (Channel.wouldKey_iff _ _).mpr (.inr (.inr (.inl hquiet)))
  rw [compositionInstant_chan now n s] at hc
  cases hclaim : s.interruptionClaim n (now + 1) with
  | some id =>
    rw [decideChannel_claim hkeys hclaim] at hc
    rw [← hc]
    refine ⟨hquiet, hunheld, rfl, fun f hf => ?_, fun _ _ => rfl⟩
    have hno : (s.chan n).staged = some f := hf
    rw [hunstaged] at hno
    cases hno
  | none =>
    by_cases hsilent : s.tb.grade = 6 ∨ (s.chan n).cfg.silence ≤ s.tb.grade ∨ minutesKept ≤ now + 1
    · rw [decideChannel_silent hkeys hclaim hsilent] at hc
      rw [← hc]
      refine ⟨hquiet, hunheld, rfl, fun f hf => ?_, nofun⟩
      have hno : (s.chan n).staged = some f := hf
      rw [hunstaged] at hno
      cases hno
    · rw [decideChannel_staged hkeys hclaim hsilent] at hc
      rw [← hc]
      refine ⟨hquiet, hunheld, rfl, fun f hf => ?_, nofun⟩
      cases hf
      exact ⟨rfl, rfl, rfl⟩


/-! ### The timebase of the placed second -/

theorem placedAt_free {s : State} (h : s.tb.state = .free) (u : UtcSecond) : (s.placedAt u).tb.state = .free ∧ (s.placedAt u).tb.time = some u ∧
    (s.placedAt u).tb.elapsed = 0 ∧ (s.placedAt u).tb.phaseError = 0 ∧ (s.placedAt u).tb.holdoverStart = none ∧ (s.placedAt u).tb.grade = 5 := by
  rw [placedAt_tb, deriveGrade_tb, relabelled_tb, h]
  exact ⟨rfl, rfl, rfl, rfl, rfl, rfl⟩

/-- A reference that is not a candidate is none at the evaluation, and no candidate leaves no selection (R29). -/
theorem evaluate_unselected {s : State} (ha : s.mon.a.candidate = false) (hb : s.mon.b.candidate = false) : s.evaluate.mon.selection = none := by
  rw [evaluate_selection]
  have hnone : ∀ r, (s.runsUpdated.ref r).candidate = false := fun r => by
    rw [runsUpdated_ref, evaluated_candidate]
    cases r
    · exact ha
    · exact hb
  cases hsel : s.runsUpdated.mon.selection with
  | some r => rw [selectionAfter_lost hsel (hnone r), if_neg (by rw [hnone]; exact Bool.false_ne_true)]
  | none => exact selectionAfter_idle hsel hnone

/-- What SET TIME leaves of the timebase: FREE or, with a candidate, LOCKED at the placed second (R15). -/
theorem place_free {s : State} (h : s.tb.state = .free) (u : UtcSecond) : (s.place u).tb.elapsed = 0 ∧ (s.place u).tb.phaseError = 0 ∧
    (s.place u).tb.holdoverStart = none ∧
    (s.mon.a.candidate = false → s.mon.b.candidate = false → (s.place u).tb.state = .free ∧ (s.place u).tb.grade = 5) := by
  obtain ⟨hfree, -, hzero, hphase, hstart, hgrade⟩ := placedAt_free h u
  obtain ⟨hstate', hstart', hphase', hgrade', -, helapsed'⟩ := handOn_tb_fields u (s.placedAt u)
  have hmon := placedAt_mon u s
  rw [place_eq, helapsed', hphase', hstart', hstate', hgrade']
  generalize s.placedAt u = x at hfree hzero hphase hstart hgrade hmon
  have hunlocked : x.tb.state ≠ .locked := by rw [hfree]; simp
  by_cases hsel : x.evaluate.mon.selection = none
  · rw [evaluate_kept_tb ⟨fun _ => hunlocked, fun _ => hsel⟩]
    exact ⟨hzero, hphase, hstart, fun _ _ => ⟨hfree, hgrade⟩⟩
  · obtain ⟨-, kstart, kphase, -⟩ := evaluate_locked_tb hsel hunlocked
    refine ⟨hzero, kphase.trans hphase, kstart, fun ha hb => absurd (evaluate_unselected ?_ ?_) hsel⟩
    · rw [hmon]; exact ha
    · rw [hmon]; exact hb

theorem placeChannels_ret (u : UtcSecond) (s : State) : (s.placeChannels u).ret = s.ret := rfl

theorem relabelled_ret (s : State) (u : UtcSecond) : (s.relabelled u).ret = { s.ret with century := centuryOf u.minute } := by
  change ({ s.abortMeasurement.ret with century := centuryOf u.minute } : Retention) = _
  rw [abortMeasurement_frame]

theorem place_ret (u : UtcSecond) (s : State) : (s.place u).ret = { s.ret with century := centuryOf u.minute } := by
  rw [place_eq, handOn_ret, placedAt_eq, placeChannels_ret, discontinuity_calendarOnly, deriveGrade_frame, relabelled_ret]

/-- What a QUIET channel holds after SET TIME: nothing, or at second 50 what its composition instant decided (R150). -/
theorem place_quiet {n : Fin 4} {s : State} (h : (s.chan n).state = .quiet) (u : UtcSecond) :
    ((s.place u).chan n).state = .quiet ∧ ((s.place u).chan n).holdPending = false ∧ ((s.place u).chan n).claimCancelled = false ∧
      (u.second ≠ 50 → ((s.place u).chan n).staged = none ∧ ((s.place u).chan n).claim = none ∧ ((s.place u).chan n).quietDecided = false) ∧
      (∀ f, ((s.place u).chan n).staged = some f →
        f.occupied = u.minute + 1 ∧ ((s.place u).chan n).claim = none ∧ ((s.place u).chan n).quietDecided = false) ∧
      ∀ id, ((s.place u).chan n).claim = some id → ((s.place u).chan n).quietDecided = false := by
  have hplaced := placedAt_undecided h u
  rw [place_eq]
  generalize s.placedAt u = x at hplaced
  by_cases hfifty : u.second = 50
  · rw [handOn_composition hfifty]
    have hbegun : (x.evaluate.setLength.chan n).Undecided := by
      rw [setLength_frame, evaluate_frame]
      exact hplaced
    obtain ⟨hq, hu, hc, hstaged, hclaim⟩ := compositionInstant_undecided hbegun (now := u.minute) rfl
    exact ⟨hq, hu, hc, fun hno => absurd hfifty hno, hstaged, hclaim⟩
  · obtain ⟨hq, hu, hc, hs, hcl, hd⟩ := handOn_undecided hplaced hfifty
    refine ⟨hq, hu, hc, fun _ => ⟨hs, hcl, hd⟩, fun f hf => ?_, fun _ _ => hd⟩
    exact absurd (hs.symm.trans hf) nofun

/-- Settles O11: the operands and the two states that refuse, in their order; then the placed second, as its start is handed on. -/
theorem setTimePlacesTheSecond : Obligations.SetTimePlacesTheSecond := by
  intro d y mo da h mi sec s hlistens p valid held minute
  have hnamed : valid → SetTimeNames y mo da h mi sec ⟨minute, sec.toNat⟩ := fun ⟨hy, hmo, hmo', hda, hda', hh, hmi, hsec⟩ =>
    ⟨instant?_eq_some_iff.mpr ⟨⟨hy, ⟨hmo, hmo', hda, hda'⟩, hh, hmi⟩, rfl⟩, inRange?_eq_some_iff.mpr ⟨⟨Nat.zero_le _, hsec⟩, rfl⟩⟩
  have hheld : s.anyHoldsTime = true ↔ held := anyHoldsTime_iff
  refine ⟨fun hbad => ?_, fun hgood hlocked => ?_, fun hgood hlocked hh => ?_, fun hgood hlocked hh => ?_⟩
  · rw [exec_setTime hlistens, ownSetTime_refused fun m k hm hk => hbad ?_]
    · rfl
    · obtain ⟨⟨hy, ⟨hmo, hmo', hda, hda'⟩, hh, hmi⟩, -⟩ := instant?_eq_some_iff.mp hm
      obtain ⟨⟨-, hsec⟩, -⟩ := inRange?_eq_some_iff.mp hk
      exact ⟨hy, hmo, hmo', hda, hda', hh, hmi, hsec⟩
  · have hlocked' : (s.handed p).tb.state = .locked := hlocked
    rw [exec_setTime hlistens, ownSetTime_named (hnamed hgood).instant (hnamed hgood).second, if_pos hlocked']
    rfl
  · have hlocked' : (s.handed p).tb.state ≠ .locked := hlocked
    rw [exec_setTime hlistens, ownSetTime_named (hnamed hgood).instant (hnamed hgood).second, if_neg hlocked', handed_anyHoldsTime,
      if_pos (hheld.mpr hh)]
    rfl
  · refine ⟨_, setTime_placed hlistens d (hnamed hgood) hlocked (mt hheld.mp hh), ?_⟩
    obtain ⟨x, hx⟩ : ∃ x, s.freed p = x := ⟨_, rfl⟩
    have hfree : x.tb.state = .free := by rw [← hx]; rfl
    have hxret : x.ret = s.ret := by rw [← hx]; rfl
    have hxmon : x.mon = s.mon := by rw [← hx]; rfl
    have hxpending : x.pending = s.pending := by rw [← hx]; rfl
    have hxfin : x.fin = s.fin + d := by rw [← hx]; rfl
    have hxchan : ∀ n, x.chan n = s.chan n := fun n => by rw [← hx]; rfl
    have htime := place_time ⟨minute, sec.toNat⟩ x
    have htimebase := place_free hfree ⟨minute, sec.toNat⟩
    have hret := place_ret ⟨minute, sec.toNat⟩ x
    have hblocks := place_blocksOnly ⟨minute, sec.toNat⟩ x
    have hquiet := fun n => place_quiet (n := n) (s := x) (u := ⟨minute, sec.toNat⟩)
    rw [answer_eq, hx]
    generalize x.place ⟨minute, sec.toNat⟩ = t at htime htimebase hret hblocks hquiet
    obtain ⟨helapsed, hphase, hstart, hfreed⟩ := htimebase
    refine ⟨htime, helapsed, hphase, hstart, by rw [hret, hxret], rfl, ?_, ?_, fun ha hb => hfreed ?_ ?_, fun n hn => hquiet n ?_⟩
    · rw [hblocks, hxpending]
    · rw [hblocks, hxfin]
    · rw [hxmon, ha]
    · rw [hxmon, hb]
    · rw [hxchan, hn]

end Sys2Proof.Machine
end

section
/-! The channel seconds and the meter through a second's start: neither the calendar's moves nor a composition touch the second a channel is to begin
next, and they start no measurement; and the causes that the procedure raises. -/

namespace Sys2Proof.Machine

/-! ### The channel seconds and the meter -/

/-- Every channel has the same second to begin next, and where no measurement is in flight none is. -/
structure State.KeepsSeconds (s t : State) : Prop where
  seconds : ∀ n, (t.chan n).nextSecond = (s.chan n).nextSecond
  idle : s.meter.working = none → t.meter.working = none

section
variable {s t u : State}

theorem State.KeepsSeconds.refl (s : State) : s.KeepsSeconds s := ⟨fun _ => rfl, id⟩

theorem State.KeepsSeconds.trans (h : s.KeepsSeconds t) (k : t.KeepsSeconds u) : s.KeepsSeconds u :=
  ⟨fun n => (k.seconds n).trans (h.seconds n), fun hs => k.idle (h.idle hs)⟩

theorem State.KeepsSeconds.of_eq (hchans : t.chans = s.chans) (hmeter : t.meter = s.meter) : s.KeepsSeconds t :=
  ⟨fun n => by unfold State.chan; rw [hchans], fun hs => by rw [hmeter]; exact hs⟩

theorem State.KeepsSeconds.map {f : Channel → Channel} (hchans : t.chans = s.chans.map f) (hf : ∀ c : Channel, (f c).nextSecond = c.nextSecond)
    (hmeter : t.meter = s.meter) : s.KeepsSeconds t :=
  ⟨fun n => by unfold State.chan; rw [hchans, Four.get_map, hf], fun hs => by rw [hmeter]; exact hs⟩

theorem State.KeepsSeconds.raise (h : s.KeepsSeconds t) (c : Cause) : s.KeepsSeconds (t.raise c) := ⟨h.seconds, h.idle⟩

theorem State.KeepsSeconds.setChan {n : Fin 4} {c : Channel} (h : c.nextSecond = (s.chan n).nextSecond) : s.KeepsSeconds (s.setChan n c) := by
  refine ⟨fun m => ?_, id⟩
  rw [State.chan_setChan]
  split
  · next hm => rw [hm, h]
  · rfl

theorem State.KeepsSeconds.modifyChan {n : Fin 4} {f : Channel → Channel} (hf : ∀ c : Channel, (f c).nextSecond = c.nextSecond) :
    s.KeepsSeconds (s.modifyChan n f) := .setChan (hf _)

end

theorem Channel.cutShort_nextSecond (c : Channel) : c.cutShort.nextSecond = c.nextSecond := by
  unfold Channel.cutShort; split <;> rfl

theorem abortMeasurement_idle (s : State) : s.abortMeasurement.meter.working = none := by
  unfold State.abortMeasurement
  split
  · next h => exact h
  · rfl

theorem abortMeasurement_keepsSeconds (s : State) : s.KeepsSeconds s.abortMeasurement := by
  refine ⟨fun n => ?_, fun _ => abortMeasurement_idle s⟩
  rw [abortMeasurement_chan]
  split
  · exact Channel.cutShort_nextSecond _
  · rfl

theorem abortMeasurementOn_keepsSeconds (n : Fin 4) (s : State) : s.KeepsSeconds (s.abortMeasurementOn n) := by
  unfold State.abortMeasurementOn
  split
  · exact .refl s
  · split
    · exact abortMeasurement_keepsSeconds s
    · exact .refl s

theorem moveChannel_keepsSeconds (n : Fin 4) (st : ChannelState) (s : State) : s.KeepsSeconds (s.moveChannel n st) := by
  unfold State.moveChannel
  split
  · exact .refl s
  · exact (State.KeepsSeconds.modifyChan (f := Channel.enter st) fun _ => rfl).trans (abortMeasurementOn_keepsSeconds n _)

theorem startResuming_keepsSeconds (n : Fin 4) (s : State) : s.KeepsSeconds (s.startResuming n) := by
  have hstarted : ∀ t : State, t.KeepsSeconds (t.modifyChan n fun c => { c with resumeStart := some (s.resumeMoment n) }) := fun t =>
    .modifyChan fun _ => rfl
  have hcounted : ∀ t : State, t.KeepsSeconds (t.carrierOnEvent n) := fun t => .modifyChan fun _ => rfl
  exact ((moveChannel_keepsSeconds n .resuming s).trans (hstarted _)).trans (hcounted _)

theorem releaseChannel_keepsSeconds (i : Nat) (n : Fin 4) (s : State) : s.KeepsSeconds (s.releaseChannel i n) := by
  unfold State.releaseChannel
  dsimp only
  split
  · split
    · exact .setChan rfl
    · exact (startResuming_keepsSeconds n s).raise _
  · split
    · exact .setChan rfl
    · exact .refl s

theorem testDeferred_keepsSeconds (n : Fin 4) (s : State) : s.KeepsSeconds (s.testDeferred n) := by
  unfold State.testDeferred
  dsimp only
  split
  · exact (startResuming_keepsSeconds n s).raise _
  · exact .refl s

theorem eachChannel_keepsSeconds {f : Fin 4 → State → State} (hf : ∀ n (s : State), s.KeepsSeconds (f n s)) (s : State) :
    s.KeepsSeconds (s.eachChannel f) := (((hf 0 s).trans (hf 1 _)).trans (hf 2 _)).trans (hf 3 _)

theorem release_keepsSeconds (i : Nat) (s : State) : s.KeepsSeconds (s.release i) := eachChannel_keepsSeconds (releaseChannel_keepsSeconds i) s

theorem leaveRing_keepsSeconds (i : Nat) (s : State) : s.KeepsSeconds (s.leaveRing i) := by
  rw [leaveRing_frame_chans]
  split
  · exact .map (f := Channel.forgets i) rfl (fun _ => rfl) rfl
  · exact .of_eq rfl rfl

theorem joinRing_keepsSeconds (i : Nat) (s : State) : s.KeepsSeconds (s.joinRing i) := by
  rw [joinRing_frame]
  exact .of_eq rfl rfl

theorem modifyEntry_keepsSeconds (i : Nat) (f : Entry → Entry) (s : State) : s.KeepsSeconds (s.modifyEntry i f) := .of_eq rfl rfl

theorem removeEntry_keepsSeconds (i : Nat) (s : State) : s.KeepsSeconds (s.removeEntry i) := (leaveRing_keepsSeconds i s).trans (.of_eq rfl rfl)

theorem finishEntry_keepsSeconds (e : Entry) (o : EntryOutcome) (s : State) : s.KeepsSeconds (s.finishEntry e o) := by
  rw [finishEntry_frame_chans]
  split
  · exact .map (f := Channel.forgets e.ident) rfl (fun _ => rfl) rfl
  · exact .of_eq rfl rfl

theorem applyPayload_keepsSeconds (p : Payload) (s : State) : s.KeepsSeconds (s.applyPayload p) := by
  rw [applyPayload_frame]
  exact .of_eq rfl rfl

theorem foldl_keepsSeconds {α : Type} {f : State → α → State} (h : ∀ (s : State) (a : α), s.KeepsSeconds (f s a)) (l : List α) (s : State) :
    s.KeepsSeconds (l.foldl f s) := by
  induction l generalizing s with
  | nil => exact .refl s
  | cons a l ih => exact (h s a).trans (ih _)

theorem onEntry_keepsSeconds {move : Entry → State → State} (h : ∀ (e : Entry) (s : State), s.KeepsSeconds (move e s)) (i : Nat) (s : State) :
    s.KeepsSeconds (s.onEntry i move) := by
  unfold State.onEntry
  split
  · exact h _ s
  · exact .refl s

theorem openEntry_keepsSeconds (now : Nat) (e : Entry) (s : State) : s.KeepsSeconds (s.openEntry now e) := by
  unfold State.openEntry
  split
  · exact (modifyEntry_keepsSeconds e.ident _ s).trans (joinRing_keepsSeconds e.ident _)
  · exact .refl s

theorem commitEntry_keepsSeconds (now : Nat) (e : Entry) (s : State) : s.KeepsSeconds (s.commitEntry now e) := by
  rw [commitEntry_eq]
  exact .of_eq rfl rfl

theorem effectEntry_keepsSeconds (now : Nat) (e : Entry) (s : State) : s.KeepsSeconds (s.effectEntry now e) := by
  unfold State.effectEntry
  split
  · split
    · exact ((applyPayload_keepsSeconds _ s).trans (finishEntry_keepsSeconds e _ _)).raise _
    · exact (finishEntry_keepsSeconds e _ s).raise _
    · split <;> exact (finishEntry_keepsSeconds e _ s).raise _
    · split <;> exact (finishEntry_keepsSeconds e _ s).raise _
    · exact ((leaveRing_keepsSeconds e.ident s).trans (modifyEntry_keepsSeconds e.ident _ _)).raise _
  · exact .refl s

theorem endOutage_keepsSeconds (now : Nat) (e : Entry) (s : State) : s.KeepsSeconds (s.endOutage now e) := by
  unfold State.endOutage
  split
  · exact ((finishEntry_keepsSeconds e _ s).trans (release_keepsSeconds e.ident _)).raise _
  · exact .refl s

theorem removeWithdrawn_keepsSeconds (s : State) : s.KeepsSeconds s.removeWithdrawn :=
  foldl_keepsSeconds (fun s (e : Entry) => removeEntry_keepsSeconds e.ident s) _ s

theorem boundaryPass_keepsSeconds (now : Nat) (s : State) : s.KeepsSeconds (s.boundaryPass now) :=
  (removeWithdrawn_keepsSeconds s).trans
    (foldl_keepsSeconds (fun s i => (((onEntry_keepsSeconds (openEntry_keepsSeconds now) i s).trans
      (onEntry_keepsSeconds (commitEntry_keepsSeconds now) i _)).trans (onEntry_keepsSeconds (effectEntry_keepsSeconds now) i _)).trans
      (onEntry_keepsSeconds (endOutage_keepsSeconds now) i _)) _ _)

theorem decideChannel_keepsSeconds (now : Nat) (n : Fin 4) (s : State) : s.KeepsSeconds (s.decideChannel now n) := by
  unfold State.decideChannel State.compose
  dsimp only
  split
  · have hreopened : s.KeepsSeconds (s.modifyChan n Channel.reopened) := .modifyChan fun _ => rfl
    have hbegun : ∀ t : State, t.KeepsSeconds (t.modifyChan n Channel.beginFrame) := fun t =>
      .modifyChan fun c => by rw [Channel.beginFrame_eq]
    split
    · exact hreopened.trans (.setChan rfl)
    · split
      · exact hreopened.trans (.setChan rfl)
      · split <;> exact (hreopened.trans (hbegun _)).trans (.setChan rfl)
  · exact .refl s

theorem evaluate_setLength_keepsSeconds (s : State) : s.KeepsSeconds s.evaluate.setLength := by
  rw [setLength_frame, evaluate_frame]
  exact .of_eq rfl rfl

/-- The start of a second begins no channel second and no measurement (R1, R120). -/
theorem handOn_keepsSeconds (u : UtcSecond) (s : State) : s.KeepsSeconds (s.handOn u) := by
  refine (evaluate_setLength_keepsSeconds s).trans ?_
  unfold State.handOn
  dsimp only
  split
  · exact (boundaryPass_keepsSeconds u.minute _).trans (eachChannel_keepsSeconds testDeferred_keepsSeconds _)
  · split
    · exact eachChannel_keepsSeconds (decideChannel_keepsSeconds u.minute) _
    · exact .refl _

/-! ### The procedure -/

theorem takeLate_keepsSeconds (now : Nat) (e : Entry) (s : State) : s.KeepsSeconds (s.takeLate now e) := by
  rw [takeLate_eq]
  split
  · exact .map (f := Channel.forgets e.ident) rfl (fun _ => rfl) rfl
  · exact .of_eq rfl rfl

theorem recomputeEntry_keepsSeconds (now : UtcSecond) (e : Entry) (s : State) : s.KeepsSeconds (s.recomputeEntry now e) := by
  rw [recomputeEntry_eq]
  split
  · exact .map (f := Channel.forgets e.ident) rfl (fun _ => rfl) rfl
  · exact .of_eq rfl rfl

theorem replaceInEffect_keepsSeconds (now : UtcSecond) (e : Entry) (s : State) : s.KeepsSeconds (s.replaceInEffect now e) := by
  unfold State.replaceInEffect
  split
  · exact ((finishEntry_keepsSeconds e _ s).trans (release_keepsSeconds e.ident _)).raise _
  · split
    · exact .refl s
    · exact ((modifyEntry_keepsSeconds e.ident _ s).trans (recomputeEntry_keepsSeconds now e _)).trans (release_keepsSeconds e.ident _)

theorem placeEntries_keepsSeconds (now : UtcSecond) (s : State) : s.KeepsSeconds (s.placeEntries now) :=
  (removeWithdrawn_keepsSeconds s).trans (foldl_keepsSeconds (fun s i => onEntry_keepsSeconds (fun e => placeEntry_cases .refl
    (takeLate_keepsSeconds now.minute e) (recomputeEntry_keepsSeconds now e) (replaceInEffect_keepsSeconds now e)) i s) _ _)

theorem discontinuity_keepsSeconds {s : State} {now : UtcSecond} (h : s.tb.time = some now) : s.KeepsSeconds (s.discontinuity none) := by
  rw [discontinuity_eq h]
  exact (placeEntries_keepsSeconds now s).trans (.map (f := Channel.emptyArbiter) rfl (fun _ => rfl) rfl)

theorem modifyEntry_causes (i : Nat) (f : Entry → Entry) (s : State) : s.RaisesCalendarCauses (s.modifyEntry i f) := .of_att rfl

theorem takeLate_causes (now : Nat) (e : Entry) (s : State) : s.RaisesCalendarCauses (s.takeLate now e) := by
  rw [takeLate_eq]
  exact (State.Raises.of_att (s := s) (t := { s with
    cal := (s.takeLate now e).cal, profiles := (s.applyPayload e.payload).profiles
    chans := if e.ident ∈ s.cal.ring then s.chans.map (Channel.forgets e.ident) else s.chans }) rfl).raise (c := .changeOvertaken) rfl

theorem recomputeEntry_causes (now : UtcSecond) (e : Entry) (s : State) : s.RaisesCalendarCauses (s.recomputeEntry now e) := by
  unfold State.recomputeEntry
  dsimp only
  split
  · exact (joinRing_causes e.ident _).after rfl
  · exact .of_att (leaveRing_att _ _)

theorem replaceInEffect_causes (now : UtcSecond) (e : Entry) (s : State) : s.RaisesCalendarCauses (s.replaceInEffect now e) := by
  unfold State.replaceInEffect
  split
  · exact (((release_causes e.ident _).after (finishEntry_att e _ s)).mono rfl).raise rfl
  · split
    · exact .of_att rfl
    · exact ((modifyEntry_causes e.ident _ s).trans (recomputeEntry_causes now e _)).trans ((release_causes e.ident _).mono rfl)

/-- The procedure raises causes of the calendar and of the channels alone. -/
theorem discontinuity_causes {s : State} {now : UtcSecond} (h : s.tb.time = some now) : s.RaisesCalendarCauses (s.discontinuity none) := by
  rw [discontinuity_eq h]
  refine State.Raises.trans ?_ (.of_att (s := s.placeEntries now) rfl)
  exact (foldl_raises (fun s i => onEntry_raises (fun e => placeEntry_cases (fun _ => .of_att rfl) (takeLate_causes now.minute e)
    (recomputeEntry_causes now e) (replaceInEffect_causes now e)) i s) _ s.removeWithdrawn).after (removeWithdrawn_att s)

end Sys2Proof.Machine
end

section
/-! A GOOD edge: the state in which it measures or adopts, and what it then does, by its cases (R6, R8, R27, R28, R30 to R33). -/

namespace Sys2Proof.Machine

/-! ### The edge and its verdict -/

/-- The edge `d` periods on reaches GOOD with the message `m` for a reference that is or becomes QUALIFIED (R25, R27). -/
structure State.GoodAt (s : State) (d : Nat) (r : Ref) (m : Message) (a now : Nat) : Prop where
  qualifies : (s.ref r).state = .qualified ∨ ((s.ref r).state = .acquiring ∧ 9 ≤ (s.ref r).goodRun)
  anchor : (s.ref r).anchor = some a
  reached : (s.elapse d).intervalMicros = now
  early : a + 999000 ≤ now
  late : now ≤ a + 1001000
  held : (s.ref r).held = some m
  clean : (s.ref r).lineError = false
  valid : m.label.valid = true
  follows : ∀ l ∈ (s.ref r).lastLabel, l.advanced.label = m.label
  timed : m.timeValid = true
  leap : ¬(m.leapInsert = true ∧ m.leapDelete = true)

/-- The state in which a GOOD edge of `r` with the message `m` measures or adopts. -/
structure State.Edged (s : State) (d : Nat) (r : Ref) (m : Message) (g : State) : Prop where
  frame : g = { s.elapse d with mon := g.mon, att := { s.att with
    flags := if (s.ref r).state = .qualified then s.att.flags else s.att.flags ||| 0x0100 } }
  state : (g.ref r).state = .qualified
  label : (g.ref r).lastLabel = some m
  agreement : (g.ref r).agreement = true ↔ (s.elapse d).nearestLabel = some m.label
  carried : (g.ref r).carried = (s.ref r).carried
  mismatch : (g.ref r).leapMismatch = (s.ref r).leapMismatch
  reported : (g.ref r).disagreementReported = true ↔ (s.ref r).state = .qualified ∧ (s.ref r).disagreementReported = true
  other : g.ref (otherRef r) = s.ref (otherRef r)
  selection : g.mon.selection = s.mon.selection
  revertive : g.mon.revertive = s.mon.revertive
  firstEdge : g.mon.firstEdge = s.mon.firstEdge

section
variable {s : State} {d a now : Nat} {r : Ref} {m : Message}

theorem State.GoodAt.verdict (h : s.GoodAt d r m a now) : (s.ref r).verdictAt a now = .good := by
  have htime : ¬(now < a + 999000 ∨ a + 1001000 < now) := by
    have hearly := h.early
    have hlate := h.late
    omega
  have hlabel : ¬(m.label.valid = false ∨ ∃ l ∈ (s.ref r).lastLabel, l.advanced.label ≠ m.label) := by
    rintro (hv | ⟨l, hl, hne⟩)
    · rw [h.valid] at hv; cases hv
    · exact hne (h.follows l hl)
  have hvalid : ¬(m.timeValid = false ∨ (m.leapInsert = true ∧ m.leapDelete = true)) := by
    rintro (ht | hl)
    · rw [h.timed] at ht; cases ht
    · exact h.leap hl
  have hon : onTime a now = true := by rw [← Bool.not_eq_false]; exact mt onTime_eq_false_iff.mp htime
  rw [RefRecord.verdictAt_held hon h.held, h.clean, if_neg Bool.false_ne_true, if_neg hlabel, if_neg hvalid]

/-- The record of a reference after its GOOD verdict, before its agreement. -/
theorem State.GoodAt.judged (h : s.GoodAt d r m a now) {x y : RefRecord} (hx : { s.ref r with anchor := some now } = x) (hy : x.judged .good = y) :
    y.state = .qualified ∧ y.lastLabel = some m ∧ y.carried = (s.ref r).carried ∧ y.leapMismatch = (s.ref r).leapMismatch ∧
      (y.disagreementReported = true ↔ (s.ref r).state = .qualified ∧ (s.ref r).disagreementReported = true) := by
  have hstate : y.state = if (s.ref r).state = .acquiring ∧ 10 ≤ bumpRun (s.ref r).goodRun then .qualified else (s.ref r).state := by
    rw [← hy, RefRecord.judged_good, ← hx]
  have hreported : y.disagreementReported =
      if (s.ref r).state = .acquiring ∧ 10 ≤ bumpRun (s.ref r).goodRun then false else (s.ref r).disagreementReported := by
    rw [← hy, RefRecord.judged_good, ← hx]
  have hlabel : y.lastLabel = some m := by
    have hheld : x.held = some m := by rw [← hx]; exact h.held
    have hclean : x.lineError = false := by rw [← hx]; exact h.clean
    rw [← hy, RefRecord.judged_good]
    refine (RefRecord.updateLabel_lastLabel x).trans ?_
    rw [hheld, hclean]
    dsimp only
    rw [h.valid]
    rfl
  refine ⟨?_, hlabel, by rw [← hy, RefRecord.judged_good, ← hx]; rfl, by rw [← hy, RefRecord.judged_good, ← hx]; rfl, ?_⟩
  · rw [hstate]
    rcases h.qualifies with hq | ⟨hq, hrun⟩
    · rw [hq, if_neg fun hc => RefState.noConfusion hc.1]
    · have hten : 10 ≤ bumpRun (s.ref r).goodRun := by rw [bumpRun_eq]; omega
      rw [if_pos ⟨hq, hten⟩]
  · rw [hreported]
    rcases h.qualifies with hq | ⟨hq, hrun⟩
    · rw [hq, if_neg fun hc => RefState.noConfusion hc.1]
      simp
    · have hten : 10 ≤ bumpRun (s.ref r).goodRun := by rw [bumpRun_eq]; omega
      rw [if_pos ⟨hq, hten⟩, hq]
      simp

theorem judgeAgreement_eq (hq : (s.ref r).state = .qualified) (hl : (s.ref r).lastLabel = some m) :
    s.judgeAgreement r = s.setRef r { s.ref r with agreement := decide (s.nearestLabel = some m.label) } := by
  unfold State.judgeAgreement
  refine (if_pos hq).trans (congrArg (fun b => s.setRef r { s.ref r with agreement := b }) ?_)
  rw [hl]
  cases s.nearestLabel with
  | none => rfl
  | some l =>
    dsimp only
    rw [Bool.eq_iff_iff, beq_iff_eq, decide_eq_true_iff, Option.some.injEq, eq_comm]

/-- A GOOD edge of a reference that is or becomes QUALIFIED meets an ADOPT REFERENCE that waits for it, or none. -/
theorem exec_goodEdge (hr : s.running = true) {pulse : Nat} (hpulse : 5 ≤ pulse) (h : s.GoodAt d r m a now) : ∃ g, s.Edged d r m g ∧
    exec (.referenceEdge d r (s.ref r).polarity pulse) s =
      .next (if s.link = .working (.adopting r) then g.adoptRequested r m.label else g.goodEdge r m.label) := by
  have hon : (s.ref r).state ≠ .off := by
    rcases h.qualifies with hq | ⟨hq, -⟩ <;> rw [hq] <;> simp
  have hedged := exec_referenceEdge_verdict hr hon rfl hpulse h.anchor h.reached rfl
  rw [h.verdict] at hedged
  obtain ⟨x, hx⟩ : ∃ x : RefRecord, { s.ref r with anchor := some now } = x := ⟨_, rfl⟩
  obtain ⟨y, hy⟩ : ∃ y : RefRecord, RefRecord.judged .good x = y := ⟨_, rfl⟩
  obtain ⟨hstate, hlabel, hcarried, hmismatch, hreported⟩ := h.judged hx hy
  obtain ⟨j, hj⟩ : ∃ j, ((s.elapse d).setRef r x).judge r .good = j := ⟨_, rfl⟩
  have hjref : j.ref r = y := by rw [← hj, judge_ref, if_pos rfl, State.ref_setRef_same, hy]
  have hjother : j.ref (otherRef r) = s.ref (otherRef r) := by
    rw [← hj, judge_ref, if_neg (otherRef_ne r), State.ref_setRef_other, State.ref_elapse]
  have hmon : j.mon = (((s.elapse d).setRef r x).setRef r y).mon := by rw [← hj, judge_eq, State.ref_setRef_same, hy]
  have hjframe : j = { s.elapse d with mon := j.mon, att := { s.att with
      flags := if (s.ref r).state = .qualified then s.att.flags else s.att.flags ||| 0x0100 } } := by
    have hxstate : x.state = (s.ref r).state := by rw [← hx]
    have hjudge := judge_eq r .good ((s.elapse d).setRef r x)
    rw [hj, State.ref_setRef_same, hy, hstate, hxstate, setRef_frame r x (s.elapse d)] at hjudge
    rw [hjudge]
    have hflags : (if RefState.qualified = (s.ref r).state then s.att.flags else s.att.flags ||| 0x0100) =
        if (s.ref r).state = .qualified then s.att.flags else s.att.flags ||| 0x0100 := if_congr eq_comm rfl rfl
    have hlink : ¬((s.ref r).state = .qualified ∧ RefState.qualified ≠ RefState.qualified ∧ s.link = .working (.adopting r)) := fun hc => hc.2.1 rfl
    dsimp only
    refine congrArg₂ (fun (f : BitVec 13) (k : Link) => ({ s.elapse d with mon := _, att := { s.att with flags := f }, link := k } : State)) hflags ?_
    exact if_neg hlink
  have hnearest : j.nearestLabel = (s.elapse d).nearestLabel := by rw [hjframe]; rfl
  have hjlink : j.link = s.link := by rw [hjframe]; rfl
  obtain ⟨g, hg⟩ : ∃ g, j.judgeAgreement r = g := ⟨_, rfl⟩
  have hgeq : g = j.setRef r { y with agreement := decide ((s.elapse d).nearestLabel = some m.label) } := by
    rw [← hg, judgeAgreement_eq (m := m) (by rw [hjref]; exact hstate) (by rw [hjref]; exact hlabel), hjref, hnearest]
  have hgref : g.ref r = { y with agreement := decide ((s.elapse d).nearestLabel = some m.label) } := by rw [hgeq, State.ref_setRef_same]
  refine ⟨g, ⟨?_, ?_, ?_, ?_, ?_, ?_, ?_, ?_, ?_, ?_, ?_⟩, hedged.trans (congrArg Host.Outcome.next ?_)⟩
  · rw [hgeq, setRef_frame, hjframe]
  · rw [hgref]; exact hstate
  · rw [hgref]; exact hlabel
  · rw [hgref]; exact decide_eq_true_iff
  · rw [hgref]; exact hcarried
  · rw [hgref]; exact hmismatch
  · rw [hgref]; exact hreported
  · rw [hgeq, State.ref_setRef_other, hjother]
  · rw [hgeq, State.setRef_selection, ← hj, judge_selection, State.setRef_selection, State.elapse_mon]
  · rw [hgeq, State.setRef_revertive, hmon, State.setRef_revertive, State.setRef_revertive, State.elapse_mon]
  · rw [hgeq, State.setRef_firstEdge, hmon, State.setRef_firstEdge, State.setRef_firstEdge, State.elapse_mon]
  · have hglabel : (g.ref r).lastLabel = some m := by rw [hgref]; exact hlabel
    have hglink : g.link = s.link := by rw [hgeq, State.setRef_link, hjlink]
    unfold State.reachVerdict
    dsimp only
    rw [if_pos rfl, hx, hj, hg, hglabel]
    dsimp only
    rw [hglink]

end

end Sys2Proof.Machine
end

section
/-! What a GOOD edge does, by the selection, the agreement and the carried adoption (R28, R30, R31, R33). -/

namespace Sys2Proof.Machine

/-! ### The cases of an edge -/

/-- The state with a carried adoption taken out of the reference's record (R31). -/
def State.uncarried (s : State) (r : Ref) : State := s.setRef r { s.ref r with carried := false }

section
variable {s : State} {r : Ref} {l : Label}

theorem uncarried_frame (s : State) (r : Ref) : s.uncarried r = { s with mon := (s.uncarried r).mon } := setRef_frame _ _ _

theorem uncarried_ref (s : State) (r : Ref) : (s.uncarried r).ref r = { s.ref r with carried := false } := State.ref_setRef_same _ _ _

theorem uncarried_selection (s : State) (r : Ref) : (s.uncarried r).mon.selection = s.mon.selection := State.setRef_selection _ _ _

theorem uncarried_firstEdge (s : State) (r : Ref) : (s.uncarried r).mon.firstEdge = s.mon.firstEdge := State.setRef_firstEdge _ _ _

theorem uncarried_revertive (s : State) (r : Ref) : (s.uncarried r).mon.revertive = s.mon.revertive := State.setRef_revertive _ _ _

theorem mayAdopt_iff : s.mayAdopt = true ↔ s.tb.state = .unset ∨ ¬∃ n : Fin 4, (s.chan n).state.inService = true := by
  rw [State.mayAdopt, Bool.or_eq_true, beq_iff_eq, Bool.not_eq_true', ← Bool.not_eq_true, anyInService_iff]

/-- The selected reference is compared and measured (R30, R33). -/
theorem goodEdge_selected (hsel : s.mon.selection = some r) : s.goodEdge r l = ((s.uncarried r).checkLeap r).measure := by
  unfold State.goodEdge
  dsimp only
  rw [if_neg fun h => by rw [hsel] at h; exact Option.some_ne_none _ h.2.1, if_pos hsel]
  rfl

/-- While another reference is selected nothing but the record changes. -/
theorem goodEdge_other {q : Ref} (hsel : s.mon.selection = some q) (hne : q ≠ r) : s.goodEdge r l = s.uncarried r := by
  unfold State.goodEdge
  dsimp only
  rw [if_neg fun h => by rw [hsel] at h; exact Option.some_ne_none _ h.2.1, if_neg fun h => hne (Option.some.inj (hsel.symm.trans h)),
    if_neg fun h => by rw [hsel] at h; exact Option.some_ne_none _ h.1]
  rfl

section
variable (hsel : s.mon.selection = none) (hq : (s.ref r).state = .qualified)
include hsel hq

/-- With none selected a carried adoption is taken, and a disagreeing reference is adopted (R31). -/
theorem goodEdge_adopts (htakes : (s.ref r).carried = true ∨ (s.ref r).agreement = false) (hmay : s.mayAdopt = true) :
    s.goodEdge r l = (s.uncarried r).adoptOrCarry r l := by
  unfold State.goodEdge
  dsimp only
  by_cases hcarried : (s.ref r).carried = true
  · rw [if_pos ⟨hcarried, hsel, hmay⟩]
    rfl
  · rw [if_neg fun h => hcarried h.1, if_neg (by rw [hsel]; exact (Option.some_ne_none r).symm), if_pos ⟨hsel, hq, htakes.resolve_left hcarried⟩, if_pos hmay]
    rfl

omit hq in
/-- With none selected, a reference that agrees and has no carried adoption to take changes nothing else (R31). -/
theorem goodEdge_agrees (htakes : ¬((s.ref r).carried = true ∧ s.mayAdopt = true)) (hagrees : (s.ref r).agreement = true) :
    s.goodEdge r l = s.uncarried r := by
  unfold State.goodEdge
  dsimp only
  rw [if_neg fun h => htakes ⟨h.1, h.2.2⟩, if_neg (by rw [hsel]; exact (Option.some_ne_none r).symm),
    if_neg fun h => by rw [hagrees] at h; exact Bool.noConfusion h.2.2]
  rfl

/-- With none selected, a disagreement that may not be adopted is reported once (R31). -/
theorem goodEdge_reports (hmay : s.mayAdopt ≠ true) (hdisagrees : (s.ref r).agreement = false) : s.goodEdge r l =
    if (s.ref r).disagreementReported = true then s.uncarried r
    else ((s.uncarried r).setRef r { s.ref r with carried := false, disagreementReported := true }).raise .timeDisagree := by
  unfold State.goodEdge
  dsimp only
  rw [if_neg fun h => hmay h.2.2, if_neg (by rw [hsel]; exact (Option.some_ne_none r).symm), if_pos ⟨hsel, hq, hdisagrees⟩, if_neg hmay]
  rfl

end

theorem adoptOrCarry_carries (h : l.second = 60) : s.adoptOrCarry r l = s.setRef r { s.ref r with carried := true } := if_pos h

theorem adoptOrCarry_adopts (h : l.second ≠ 60) : s.adoptOrCarry r l = s.adopt r l := if_neg h

/-! ### A waiting ADOPT REFERENCE -/

theorem adoptRequested_refused (hq : (s.ref r).state = .qualified) (hheld : s.anyHoldsTime = true) :
    s.adoptRequested r l = ({ s with link := .replyHeld [0x12, Result.channelsOnAir.byte] } : State).goodEdge r l := by
  unfold State.adoptRequested
  rw [if_neg (not_not_intro hq), if_pos hheld]

theorem adoptRequested_waits (hq : (s.ref r).state = .qualified) (hheld : s.anyHoldsTime ≠ true) (hl : l.second = 60) :
    s.adoptRequested r l = s.goodEdge r l := by
  unfold State.adoptRequested
  rw [if_neg (not_not_intro hq), if_neg hheld, if_pos hl]

theorem adoptRequested_adopts (hq : (s.ref r).state = .qualified) (hheld : s.anyHoldsTime ≠ true) (hl : l.second ≠ 60) :
    s.adoptRequested r l = { (if s.mon.selection = some r then s.checkLeap r else s).adopt r l with link := .replyHeld [0x12, 0x00] } := by
  unfold State.adoptRequested
  rw [if_neg (not_not_intro hq), if_neg hheld, if_neg hl]
  rfl

theorem checkLeap_blocksOnly (r : Ref) (s : State) : s.blocksOnly (s.checkLeap r) := by
  unfold State.checkLeap
  dsimp only
  split
  · rfl
  · split
    · exact setRef_blocksOnly _ _ _
    · split
      · rfl
      · exact (setRef_blocksOnly _ _ _).trans rfl

/-- An edge leaves the link to an ADOPT REFERENCE that waits. -/
theorem goodEdge_blocksOnly (r : Ref) (l : Label) (s : State) : s.blocksOnly (s.goodEdge r l) := by
  have huncarried : s.blocksOnly (s.uncarried r) := setRef_blocksOnly _ _ _
  have hadopts : s.blocksOnly ((s.uncarried r).adoptOrCarry r l) := by
    unfold State.adoptOrCarry
    split
    · exact huncarried.trans (setRef_blocksOnly _ _ _)
    · exact huncarried.trans (adopt_blocksOnly _ _ _)
  unfold State.goodEdge
  dsimp only
  split
  · exact hadopts
  · split
    · exact (huncarried.trans (checkLeap_blocksOnly r _)).trans (measure_blocksOnly _)
    · split
      · split
        · exact hadopts
        · split
          · exact huncarried
          · exact (huncarried.trans (setRef_blocksOnly _ _ _)).trans rfl
      · exact huncarried

end

/-! ### What an edge leaves besides its own record -/

section
variable {s g : State} {d : Nat} {r : Ref} {m : Message}

theorem State.Edged.anyHoldsTime (h : s.Edged d r m g) : g.anyHoldsTime = s.anyHoldsTime := by rw [h.frame]; rfl

theorem State.Edged.mayAdopt (h : s.Edged d r m g) : g.mayAdopt = s.mayAdopt := by rw [h.frame]; rfl

theorem State.Edged.link (h : s.Edged d r m g) : g.link = s.link := by rw [h.frame]; rfl

theorem State.Edged.uncarried (h : s.Edged d r m g) : g.uncarried r = { s.elapse d with mon := (g.uncarried r).mon, att := { s.att with
    flags := if (s.ref r).state = .qualified then s.att.flags else s.att.flags ||| 0x0100 } } :=
  (uncarried_frame g r).trans (congrArg (fun x : State => { x with mon := (g.uncarried r).mon }) h.frame)

/-- A state that differs from the edge's in the monitor and the flags alone. -/
theorem State.Edged.of_mon (h : s.Edged d r m g) {t : State} (ht : t = { g with mon := t.mon, att := { g.att with flags := t.att.flags } }) :
    t = { s.elapse d with mon := t.mon, att := { s.att with flags := t.att.flags } } :=
  ht.trans (congrArg (fun x : State => { x with mon := t.mon, att := { x.att with flags := t.att.flags } }) h.frame)

/-- With none selected, a label of second 60 is carried to the next edge (R31). -/
theorem edged_carries (h : s.Edged d r m g) (hsel : s.mon.selection = none) (htakes : (s.ref r).carried = true ∨ (g.ref r).agreement = false)
    (hmay : s.mayAdopt = true) (hl : m.label.second = 60) : ∃ t, g.goodEdge r m.label = t ∧
      t = { s.elapse d with mon := t.mon, att := { s.att with
        flags := if (s.ref r).state = .qualified then s.att.flags else s.att.flags ||| 0x0100 } } ∧
      (t.ref r).carried = true ∧ (t.ref r).agreement = (g.ref r).agreement ∧ t.mon.selection = none := by
  have hgsel : g.mon.selection = none := h.selection.trans hsel
  refine ⟨_, (goodEdge_adopts hgsel h.state (by rw [h.carried]; exact htakes) (by rw [h.mayAdopt]; exact hmay)).trans (adoptOrCarry_carries hl),
    ?_, ?_, ?_, ?_⟩
  · exact (setRef_frame _ _ _).trans (congrArg (fun x : State => { x with
      mon := ((g.uncarried r).setRef r { (g.uncarried r).ref r with carried := true }).mon }) h.uncarried)
  · rw [State.ref_setRef_same]
  · rw [State.ref_setRef_same, uncarried_ref]
  · rw [State.setRef_selection, uncarried_selection, hgsel]

/-- With none selected, a disagreement that may not be adopted is reported once (R31). -/
theorem edged_reports (h : s.Edged d r m g) (hsel : s.mon.selection = none) (hmay : s.mayAdopt ≠ true) (hdisagrees : (g.ref r).agreement = false) :
    ∃ t, g.goodEdge r m.label = t ∧ t = { s.elapse d with mon := t.mon, att := { s.att with flags := t.att.flags } } ∧ t.mon.selection = none ∧
      (t.ref r).disagreementReported = true ∧ (t.ref r).carried = false ∧
      t.att.flags = if (g.ref r).disagreementReported = true then g.att.flags else g.att.flags ||| 0x0200 := by
  have hgsel : g.mon.selection = none := h.selection.trans hsel
  have hedge := goodEdge_reports (l := m.label) hgsel h.state (by rw [h.mayAdopt]; exact hmay) hdisagrees
  by_cases hreported : (g.ref r).disagreementReported = true
  · rw [if_pos hreported] at hedge
    rw [hedge, if_pos hreported]
    refine ⟨_, rfl, ?_, ?_, ?_, ?_, ?_⟩
    · refine h.of_mon ?_
      have hatt : (g.uncarried r).att = g.att := by rw [uncarried_frame]
      rw [hatt]
      exact uncarried_frame g r
    · rw [uncarried_selection, hgsel]
    · rw [uncarried_ref]; exact hreported
    · rw [uncarried_ref]
    · rw [uncarried_frame]
  · rw [if_neg hreported] at hedge
    rw [hedge, if_neg hreported]
    have hframe : (g.uncarried r).setRef r { g.ref r with carried := false, disagreementReported := true } = { g with
        mon := ((g.uncarried r).setRef r { g.ref r with carried := false, disagreementReported := true }).mon } := by
      exact (setRef_frame _ _ _).trans (congrArg (fun x : State => { x with
        mon := ((g.uncarried r).setRef r { g.ref r with carried := false, disagreementReported := true }).mon }) (uncarried_frame g r))
    have href := State.ref_setRef_same r { g.ref r with carried := false, disagreementReported := true } (g.uncarried r)
    have hselection := State.setRef_selection r { g.ref r with carried := false, disagreementReported := true } (g.uncarried r)
    generalize (g.uncarried r).setRef r { g.ref r with carried := false, disagreementReported := true } = x at hframe href hselection
    have hraised : (x.raise .timeDisagree).ref r = x.ref r := ref_congr rfl r
    refine ⟨_, rfl, h.of_mon ?_, ?_, ?_, ?_, ?_⟩
    · rw [hframe]
      rfl
    · exact hselection.trans ((uncarried_selection g r).trans hgsel)
    · rw [hraised, href]
    · rw [hraised, href]
    · rw [hframe]
      rfl

end

end Sys2Proof.Machine
end

section
/-! The leap agreement check, and the measurement that a GOOD edge of the selected reference makes (R6, R7, R13, R33). -/

namespace Sys2Proof.Machine

/-! ### The leap agreement check -/

section
variable {s : State} {r : Ref} {m : Message}

theorem Calendar.holdsLeap_iff {c : Calendar} {k : Kind} {i : Nat} :
    c.holdsLeap k i = true ↔ ∃ y ∈ c.entries, y.kind = k ∧ y.state ≠ .withdrawn ∧ y.instant = i := by
  simp [Calendar.holdsLeap, and_assoc]

theorem leapMatches_iff : s.leapMatches m = true ↔
    (m.leapInsert = true ↔ ∃ y ∈ s.cal.entries, y.kind = .leapInsert ∧ y.state ≠ .withdrawn ∧
      y.instant = monthEndInstant (s.ret.century * 100 + m.label.year) m.label.month) ∧
    (m.leapDelete = true ↔ ∃ y ∈ s.cal.entries, y.kind = .leapDelete ∧ y.state ≠ .withdrawn ∧
      y.instant = monthEndInstant (s.ret.century * 100 + m.label.year) m.label.month) := by
  unfold State.leapMatches
  dsimp only
  rw [Bool.and_eq_true, beq_iff_eq, beq_iff_eq]
  exact and_congr (Bool.eq_iff_iff.trans (iff_congr Iff.rfl Calendar.holdsLeap_iff)) (Bool.eq_iff_iff.trans (iff_congr Iff.rfl Calendar.holdsLeap_iff))

theorem setRef_eq_self {x : RefRecord} (h : s.ref r = x) : s.setRef r x = s := by cases r <;> subst h <;> rfl

/-- The cause of a mismatch found where none was held (R33). -/
def State.leapCause (s : State) (r : Ref) (m : Message) : BitVec 13 := if s.leapMatches m = false ∧ (s.ref r).leapMismatch = false then 0x0400 else 0

theorem checkLeap_cases (hl : (s.ref r).lastLabel = some m) : s.checkLeap r =
    if s.leapMatches m = true then s.setRef r { s.ref r with leapMismatch := false }
    else if (s.ref r).leapMismatch = true then s
    else (s.setRef r { s.ref r with leapMismatch := true }).raise .leapDisagree := by
  unfold State.checkLeap
  dsimp only
  split
  · next hnone =>
    rw [hl] at hnone
    cases hnone
  · next m' hm =>
    cases hl.symm.trans hm
    rfl

theorem checkLeap_eq (hl : (s.ref r).lastLabel = some m) : s.checkLeap r =
    { s.setRef r { s.ref r with leapMismatch := !s.leapMatches m } with
      att := { s.att with flags := s.att.flags ||| s.leapCause r m } } := by
  have hatt : ∀ x, (s.setRef r x).att = s.att := fun x => State.setRef_att r x s
  have hkept : ∀ x, ({ s.setRef r x with att := { s.att with flags := s.att.flags ||| (0 : BitVec 13) } } : State) = s.setRef r x := fun x => by
    rw [show ∀ x : BitVec 13, x ||| 0 = x from fun x => BitVec.or_zero, ← hatt x]
  rw [checkLeap_cases hl, State.leapCause]
  by_cases hmatch : s.leapMatches m = true
  · rw [if_pos hmatch, hmatch, if_neg fun h => Bool.noConfusion h.1, hkept]
    rfl
  · rw [if_neg hmatch, Bool.eq_false_iff.mpr hmatch]
    by_cases hheld : (s.ref r).leapMismatch = true
    · rw [if_pos hheld, if_neg fun h => Bool.noConfusion (hheld.symm.trans h.2), hkept]
      refine (setRef_eq_self ?_).symm
      rw [Bool.not_false, ← hheld]
    · rw [if_neg hheld, if_pos ⟨rfl, Bool.eq_false_iff.mpr hheld⟩, ← hatt { s.ref r with leapMismatch := true }]
      rfl

end

/-! ### The measurement -/

/-- A measured phase error `e`: the grade's source, and the correction of the second it is nearest to (R6, R7). -/
def State.corrected (e : Int) (s : State) : State :=
  let t := { s with tb := { s.tb with phaseError := e }, mon := { s.mon with firstEdge := false } }
  if e < 0 then { t with tb := { t.tb with measured := some e } } else t.slew e

section
variable {s : State}

theorem measure_corrects (htime : s.tb.time ≠ none) (hlocked : s.tb.state = .locked)
    (hstays : ¬(s.mon.firstEdge = true ∧ 100 < (phaseErrorOf s.phase).natAbs ∧ s.anyHoldsTime = false)) :
    s.measure = (s.corrected (phaseErrorOf s.phase)).deriveGrade := by
  unfold State.measure State.corrected
  dsimp only
  rw [if_neg (by rw [Option.isNone_iff_eq_none]; exact htime), if_neg hstays]
  by_cases he : phaseErrorOf s.phase < 0
  · rw [if_pos he, if_pos he]
  · rw [if_neg he, if_neg he, if_pos hlocked]

theorem corrected_frame (e : Int) (s : State) :
    s.corrected e = { s with tb := (s.corrected e).tb, mon := { s.mon with firstEdge := false } } := by
  unfold State.corrected; dsimp only; split <;> rfl

theorem corrected_tb (e : Int) (s : State) : (s.corrected e).tb = { s.tb with
    phaseError := e, measured := (s.corrected e).tb.measured, slewed := (s.corrected e).tb.slewed, window := (s.corrected e).tb.window
    length := (s.corrected e).tb.length, remainder := (s.corrected e).tb.remainder } := by
  unfold State.corrected; dsimp only; split <;> rfl

/-- Below 0 the second about to begin is to take the correction (R7). -/
theorem corrected_below {e : Int} (h : e < 0) : (s.corrected e).tb.measured = some e ∧ (s.corrected e).tb.slewed = s.tb.slewed ∧
    (s.corrected e).tb.window = s.tb.window ∧ (s.corrected e).tb.length = s.tb.length ∧ (s.corrected e).tb.remainder = s.tb.remainder := by
  unfold State.corrected
  rw [if_pos h]
  exact ⟨rfl, rfl, rfl, rfl, rfl⟩

/-- From 0 up the second in progress takes the correction (R1, R7, R9). -/
theorem corrected_above {e : Int} (h : 0 ≤ e) (hsound : s.tb.sound) : (s.corrected e).tb.measured = s.tb.measured ∧ (s.corrected e).tb.slewed = true ∧
    (s.corrected e).tb.window = s.tb.windowWith (min 50 e) ∧
    ∃ k : Int, ((s.corrected e).tb.length : Int) = (if s.tb.fselHigh then 10000000 else 5000000) + k ∧
      (s.corrected e).tb.remainder = min 50 e * 1000 + s.tb.carried - k * (if s.tb.fselHigh then 100 else 200) ∧
      -(if s.tb.fselHigh then 100 else 200) ≤ 2 * (s.corrected e).tb.remainder ∧
      2 * (s.corrected e).tb.remainder < (if s.tb.fselHigh then 100 else 200) := by
  have hslew : slewOf e = min 50 e := by unfold slewOf; omega
  have hbounds := slewOf_bounds e
  obtain ⟨-, -, -, -, hlow, hhigh, -, -⟩ := hsound
  obtain ⟨b, hb⟩ : ∃ b : State, { s with
      tb := { s.tb with phaseError := e, window := s.tb.windowWith (slewOf e), slewed := true }, mon := { s.mon with firstEdge := false } } = b := ⟨_, rfl⟩
  have hcorrected : s.corrected e = b.correct (slewOf e * 1000) := by
    unfold State.corrected
    rw [if_neg (not_lt.mpr h), ← hb]
    rfl
  have hcarried : b.tb.carried = s.tb.carried := by rw [← hb]
  have hfsel : b.tb.fselHigh = s.tb.fselHigh := by rw [← hb]
  have hresolved := correct_resolved (ns := slewOf e * 1000) (s := b) (by omega) (by rw [hcarried]; exact ⟨hlow, hhigh⟩)
  rw [← hcorrected, hcarried, hfsel, hslew] at hresolved
  refine ⟨?_, ?_, ?_, hresolved⟩
  · rw [hcorrected, State.correct_tb, ← hb]
  · rw [hcorrected, State.correct_tb, ← hb]
  · rw [hcorrected, State.correct_tb, ← hb, hslew]

end

/-! ### The edge of the selected reference -/

section
variable {s g : State} {d : Nat} {r : Ref} {m : Message}

/-- The causes that an edge has raised before its measurement: a reference QUALIFIED, a leap mismatch found (R33, R35). -/
def State.edgeFlags (s : State) (r : Ref) (m : Message) : BitVec 13 :=
  (if (s.ref r).state = .qualified then s.att.flags else s.att.flags ||| 0x0100) ||| s.leapCause r m

theorem State.Edged.leapMatches (h : s.Edged d r m g) : g.leapMatches m = s.leapMatches m := by rw [h.frame]; rfl

theorem State.Edged.leapCause (h : s.Edged d r m g) : g.leapCause r m = s.leapCause r m := by
  unfold State.leapCause
  rw [h.leapMatches, h.mismatch]

/-- The state that measures, after the leap check of the selected reference (R30, R33). -/
structure State.Compared (s : State) (d : Nat) (r : Ref) (m : Message) (x : RefRecord) (u : State) : Prop where
  frame : u = { s.elapse d with mon := u.mon, att := { s.att with flags := s.edgeFlags r m } }
  ref : u.ref r = { x with leapMismatch := !s.leapMatches m }
  selection : u.mon.selection = s.mon.selection
  revertive : u.mon.revertive = s.mon.revertive
  firstEdge : u.mon.firstEdge = s.mon.firstEdge

theorem State.Edged.checked (h : s.Edged d r m g) : s.Compared d r m (g.ref r) (g.checkLeap r) := by
  rw [checkLeap_eq h.label]
  refine ⟨?_, ?_, ?_, ?_, ?_⟩
  · have hflags : g.att.flags ||| g.leapCause r m = s.edgeFlags r m := by
      rw [h.leapCause, h.frame]
      rfl
    have hatt : g.att = { s.att with flags := g.att.flags } := by rw [h.frame]
    rw [hflags, hatt]
    exact congrArg (fun x : State => { x with att := { s.att with flags := s.edgeFlags r m } })
      ((setRef_frame _ _ _).trans (congrArg (fun x : State => { x with mon := (g.setRef r { g.ref r with leapMismatch := !g.leapMatches m }).mon }) h.frame))
  · refine (ref_congr (s := g.setRef r { g.ref r with leapMismatch := !g.leapMatches m }) rfl r).trans ?_
    rw [State.ref_setRef_same, h.leapMatches]
  · exact (State.setRef_selection _ _ _).trans h.selection
  · exact (State.setRef_revertive _ _ _).trans h.revertive
  · exact (State.setRef_firstEdge _ _ _).trans h.firstEdge

theorem State.Edged.compared (h : s.Edged d r m g) :
    s.Compared d r m { g.ref r with carried := false } ((g.uncarried r).checkLeap r) := by
  have hlabel : ((g.uncarried r).ref r).lastLabel = some m := by rw [uncarried_ref]; exact h.label
  have hmatches : (g.uncarried r).leapMatches m = s.leapMatches m := by rw [h.uncarried]; rfl
  have hcause : (g.uncarried r).leapCause r m = s.leapCause r m := by
    unfold State.leapCause
    rw [hmatches, uncarried_ref, h.mismatch]
  rw [checkLeap_eq hlabel]
  refine ⟨?_, ?_, ?_, ?_, ?_⟩
  · have hflags : (g.uncarried r).att.flags ||| (g.uncarried r).leapCause r m = s.edgeFlags r m := by
      rw [hcause, h.uncarried]
      rfl
    have hatt : (g.uncarried r).att = { s.att with flags := (g.uncarried r).att.flags } := by rw [h.uncarried]
    rw [hflags, hatt]
    exact congrArg (fun x : State => { x with att := { s.att with flags := s.edgeFlags r m } })
      ((setRef_frame _ _ _).trans (congrArg (fun x : State => { x with
        mon := ((g.uncarried r).setRef r { (g.uncarried r).ref r with leapMismatch := !(g.uncarried r).leapMatches m }).mon }) h.uncarried))
  · refine (ref_congr (s := (g.uncarried r).setRef r { (g.uncarried r).ref r with leapMismatch := !(g.uncarried r).leapMatches m }) rfl r).trans ?_
    rw [State.ref_setRef_same, uncarried_ref, hmatches]
  · exact (State.setRef_selection _ _ _).trans ((uncarried_selection g r).trans h.selection)
  · exact (State.setRef_revertive _ _ _).trans ((uncarried_revertive g r).trans h.revertive)
  · exact (State.setRef_firstEdge _ _ _).trans ((uncarried_firstEdge g r).trans h.firstEdge)

end


section
variable {s g : State} {d : Nat} {r : Ref} {m : Message}

/-- The grade of LOCKED at the phase error `e` (R13). -/
def lockedGrade (e : Int) : Nat := if e.natAbs ≤ 10 then 0 else 1

theorem gradeOf_locked (e : Int) (n : Nat) : gradeOf .locked e n = lockedGrade e := rfl

/-- What a measurement leaves of the timebase (R6, R7, R13). -/
structure Timebase.Measured (b c : Timebase) (e : Int) : Prop where
  kept : c = { b with
    phaseError := e, grade := lockedGrade e, gradeChanged := b.gradeChanged || decide (b.grade ≠ lockedGrade e)
    measured := c.measured, slewed := c.slewed, window := c.window, length := c.length, remainder := c.remainder }
  below : e < 0 → c.measured = some e ∧ c.slewed = b.slewed ∧ c.window = b.window ∧ c.length = b.length ∧ c.remainder = b.remainder
  above : 0 ≤ e → b.sound → c.measured = b.measured ∧ c.slewed = true ∧ c.window = b.windowWith (min 50 e) ∧
    ∃ k : Int, (c.length : Int) = (if b.fselHigh then 10000000 else 5000000) + k ∧
      c.remainder = min 50 e * 1000 + b.carried - k * (if b.fselHigh then 100 else 200) ∧
      -(if b.fselHigh then 100 else 200) ≤ 2 * c.remainder ∧ 2 * c.remainder < (if b.fselHigh then 100 else 200)

theorem corrected_graded {u : State} (hlocked : u.tb.state = .locked) (e : Int) : u.tb.Measured (u.corrected e).deriveGrade.tb e ∧
    (u.corrected e).deriveGrade = { u with
      tb := (u.corrected e).deriveGrade.tb, mon := { u.mon with firstEdge := false }
      att := { u.att with flags := u.att.flags ||| if u.tb.grade ≠ lockedGrade e then 0x0080 else 0 } } := by
  have hframe := corrected_frame e u
  have htb := corrected_tb e u
  have hbelow := fun h => corrected_below (s := u) (e := e) h
  have habove := fun h => corrected_above (s := u) (e := e) h
  generalize u.corrected e = c at hframe htb hbelow habove
  have hgrade : gradeOf c.tb.state c.tb.phaseError c.holdoverDuration = lockedGrade e := by
    rw [htb]
    dsimp only
    rw [hlocked, gradeOf_locked]
  have hcgrade : c.tb.grade = u.tb.grade := by rw [htb]
  have hcchanged : c.tb.gradeChanged = u.tb.gradeChanged := by rw [htb]
  have hcatt : c.att = u.att := by rw [hframe]
  refine ⟨⟨?_, fun h => ?_, fun h hs => ?_⟩, ?_⟩
  · rw [deriveGrade_tb, hgrade, hcgrade, hcchanged]
    dsimp only
    exact congrArg (fun b : Timebase => { b with
      grade := lockedGrade e, gradeChanged := u.tb.gradeChanged || decide (u.tb.grade ≠ lockedGrade e) }) htb
  · rw [deriveGrade_tb]
    exact hbelow h
  · rw [deriveGrade_tb]
    exact habove h hs
  · have hatt : c.deriveGrade.att = { u.att with flags := u.att.flags ||| if u.tb.grade ≠ lockedGrade e then 0x0080 else 0 } := by
      rw [deriveGrade_att, hgrade, hcgrade, hcatt]
      refine congrArg (fun f : BitVec 13 => { u.att with flags := f }) ?_
      split
      · rfl
      · exact BitVec.or_zero.symm
    refine (deriveGrade_frame c).trans ?_
    rw [hatt]
    exact congrArg (fun x : State => { x with
      tb := c.deriveGrade.tb, att := { u.att with flags := u.att.flags ||| if u.tb.grade ≠ lockedGrade e then 0x0080 else 0 } }) hframe

/-- A GOOD edge of the selected reference that does not step station time is measured (R6, R7, R33). -/
theorem edged_measures (h : s.Edged d r m g) (hsel : s.mon.selection = some r) (hlocked : s.tb.state = .locked) (htime : s.tb.time ≠ none) {e : Int}
    (he : phaseErrorOf (s.elapse d).phase = e) (hstays : s.mon.firstEdge = false ∨ e.natAbs ≤ 100 ∨ s.anyHoldsTime = true) :
    ∃ t, g.goodEdge r m.label = t ∧ t.mon.selection = some r ∧ t.mon.firstEdge = false ∧
      t.ref r = { g.ref r with carried := false, leapMismatch := !s.leapMatches m } ∧
      t = { s.elapse d with tb := t.tb, mon := t.mon, att := { s.att with
        flags := s.edgeFlags r m ||| if s.tb.grade ≠ lockedGrade e then 0x0080 else 0 } } ∧
      (s.elapse d).tb.Measured t.tb e := by
  have hcompared := h.compared
  have hedge := goodEdge_selected (l := m.label) (h.selection.trans hsel)
  obtain ⟨u, hu⟩ : ∃ u, (g.uncarried r).checkLeap r = u := ⟨_, rfl⟩
  rw [hu] at hcompared hedge
  obtain ⟨hframe, href, hselection, -, hfirst⟩ := hcompared
  have hutb : u.tb = (s.elapse d).tb := by rw [hframe]
  have huatt : u.att = { s.att with flags := s.edgeFlags r m } := by rw [hframe]
  have huphase : phaseErrorOf u.phase = e := by rw [← he, hframe]; rfl
  have huholds : u.anyHoldsTime = s.anyHoldsTime := by rw [hframe]; rfl
  have hmeasure := measure_corrects (s := u) (by rw [hutb]; exact htime) (by rw [hutb]; exact hlocked) (by
    rw [huphase, huholds, hfirst]
    rintro ⟨hfirst', hlarge, hheld⟩
    rcases hstays with hs | hs | hs
    · rw [hs] at hfirst'; cases hfirst'
    · omega
    · rw [hs] at hheld; cases hheld)
  rw [huphase] at hmeasure
  obtain ⟨hmeasured, hgraded⟩ := corrected_graded (u := u) (by rw [hutb]; exact hlocked) e
  rw [← hmeasure] at hmeasured hgraded
  have hmon : u.measure.mon = { u.mon with firstEdge := false } := by rw [hgraded]
  refine ⟨u.measure, hedge, ?_, ?_, ?_, ?_, ?_⟩
  · rw [hmon]
    exact hselection.trans hsel
  · rw [hmon]
  · have hmref : u.measure.ref r = u.ref r := by
      unfold State.ref
      rw [hmon]
    rw [hmref, href]
  · rw [huatt, hutb, ← hmon] at hgraded
    refine hgraded.trans ?_
    exact congrArg (fun x : State => { x with tb := u.measure.tb, mon := u.measure.mon, att := { s.att with
      flags := s.edgeFlags r m ||| if s.tb.grade ≠ lockedGrade e then 0x0080 else 0 } }) hframe
  · rw [← hutb]
    exact hmeasured

end

end Sys2Proof.Machine
end

section
/-! The first-selection step of a GOOD edge: station time moves to it, and the channel seconds with it (R8, R30, R33, R120). -/

namespace Sys2Proof.Machine

/-! ### The evaluation from a phase error of 0, and what it does with the selected reference -/

section
variable {s t : State} {r : Ref}

theorem evaluate_phaseError (h : s.tb.phaseError = 0) : s.evaluate.tb.phaseError = 0 := by
  by_cases hfits : s.evaluate.mon.selection = none ↔ s.tb.state ≠ .locked
  · rw [evaluate_kept_tb hfits, h]
  · by_cases hsel : s.evaluate.mon.selection = none
    · have hst : s.tb.state = .locked := by
        by_contra hst
        exact hfits ⟨fun _ => hst, fun _ => hsel⟩
      obtain ⟨-, -, hphase, -⟩ := evaluate_holdover_tb hsel hst
      exact hphase
    · have hst : s.tb.state ≠ .locked := fun hst => hfits ⟨fun h => absurd h hsel, fun h => absurd hst h⟩
      obtain ⟨-, -, hphase, -⟩ := evaluate_locked_tb hsel hst
      exact hphase.trans h

/-- An evaluation of a selection awaits no first edge, and ends its leap mismatch with the selection (R30, R33). -/
theorem evaluate_of_selected (hsel : s.mon.selection = some r) (hfirst : s.mon.firstEdge = false) (ht : t.mon = s.evaluate.mon) :
    t.mon.firstEdge = false ∧ ((t.ref r).leapMismatch = true ↔ (s.ref r).leapMismatch = true ∧ t.mon.selection = some r) := by
  have hselection : t.mon.selection = s.runsUpdated.selectionAfter := by rw [ht, evaluate_selection]
  have href : t.ref r = s.evaluate.ref r := ref_congr ht r
  refine ⟨?_, ?_⟩
  · rw [ht, evaluate_firstEdge, hsel, hfirst]
    exact ite_self _
  · rw [href, evaluate_ref, hselection, hsel]
    by_cases hkept : s.runsUpdated.selectionAfter = some r
    · rw [if_neg fun hc => hc.1 hkept, hkept]
      simp [RefRecord.evaluated]
    · rw [if_pos ⟨hkept, .inl rfl⟩]
      simp [hkept]

/-- What the evaluation raises: REFERENCE CHANGED and GRADE CHANGED alone (R14, R35). -/
theorem evaluate_raises (s : State) : s.Raises 0x0180 s.evaluate := by
  have hselected : s.Raises 0x0180 s.reselected := by
    have hatt := reselected_att s
    have hkept : ∀ t : State, t.att = { s.att with flags := s.att.flags } → s.Raises 0x0180 t := fun t ht => .of_att (by rw [ht])
    split at hatt
    · exact hkept _ hatt
    · refine ⟨by rw [hatt], ?_, ?_⟩
      · rw [hatt]
        exact BitVec.or_assoc _ _ _
      · rw [hatt]
        dsimp only
        rw [← BitVec.or_assoc, BitVec.or_self]
  exact hselected.trans ((followSelection_raises s.reselected).mono rfl)

/-- What the start of a second raises. -/
theorem handOn_raises_all (u : UtcSecond) (s : State) : s.Raises 0x01EF (s.handOn u) :=
  ((evaluate_raises s).mono rfl).trans ((handOn_causes u s).mono rfl)

end

/-! ### The second that follows, past the leap question -/

/-- The leap question changes none of what it asks (R67). -/
theorem askLeap_committedLeap (u : UtcSecond) (k : Kind) (i : Nat) (s : State) :
    (s.askLeap u).cal.committedLeap k i = s.cal.committedLeap k i := by
  unfold State.askLeap
  split
  · rfl
  · unfold Calendar.committedLeap
    rw [List.any_map]
    refine congrArg (List.any s.cal.entries) (funext fun e => ?_)
    dsimp only [Function.comp]
    split <;> rfl

theorem secondAfter_askLeap (u v : UtcSecond) (s : State) : (s.askLeap u).secondAfter v = s.secondAfter v := by
  unfold State.secondAfter
  rw [askLeap_committedLeap, askLeap_committedLeap]

theorem abortMeasurement_causes (s : State) : s.RaisesChannelCauses s.abortMeasurement := by
  fun_cases State.abortMeasurement
  case case1 => exact .of_att rfl
  case case2 => exact (closeMeter_causes _ _ _ _).after rfl

theorem Channel.cutShort_inForce (c : Channel) : c.cutShort.inForce = c.inForce := by
  unfold Channel.cutShort; split <;> rfl

/-! ### The state that steps -/

/-- What a step leaves before it moves station time (R8, R175). -/
structure State.Stepping (s z : State) : Prop where
  tb : z.tb.time = s.tb.time ∧ z.tb.length = s.tb.length ∧ z.tb.phaseError = 0
  mon : z.mon = { s.mon with firstEdge := false }
  cal : z.cal = s.cal
  idle : z.meter.working = none
  inForce : ∀ n, (z.chan n).inForce = (s.chan n).inForce
  raises : s.Raises 0x00E0 z

theorem stepping_stepping (s : State) : s.Stepping s.stepping := by
  obtain ⟨x, hx⟩ : ∃ x : State, { s.abortMeasurement with
      tb := { s.abortMeasurement.tb with remainder := 0, measured := none, phaseError := 0 }
      mon := { s.abortMeasurement.mon with firstEdge := false } } = x := ⟨_, rfl⟩
  have hz : s.stepping = x.deriveGrade := by rw [← hx]; rfl
  have hxtb : x.tb = { s.tb with remainder := 0, measured := none, phaseError := 0 } := by rw [← hx, abortMeasurement_tb]
  have hchan : ∀ n, x.deriveGrade.chan n = s.abortMeasurement.chan n := fun n => by rw [deriveGrade_frame, ← hx]; rfl
  rw [hz]
  refine ⟨?_, ?_, ?_, ?_, fun n => ?_, ?_⟩
  · rw [deriveGrade_tb, hxtb]
    exact ⟨rfl, rfl, rfl⟩
  · rw [deriveGrade_mon, ← hx, abortMeasurement_mon]
  · rw [deriveGrade_frame, ← hx, abortMeasurement_frame]
  · rw [deriveGrade_frame, ← hx]
    exact abortMeasurement_idle s
  · rw [hchan, abortMeasurement_chan]
    split
    · exact Channel.cutShort_inForce _
    · rfl
  · have hxatt : x.att = s.abortMeasurement.att := by rw [← hx]
    exact ((abortMeasurement_causes s).mono rfl).trans (((deriveGrade_raises x).mono rfl).after hxatt)

/-- What a step leaves (R8, R30, R33). -/
structure State.Stepped (s : State) (r : Ref) (v : UtcSecond) (t : State) : Prop where
  tb : t.tb.time = some v ∧ t.tb.elapsed = 0 ∧ t.tb.phaseError = 0
  idle : t.meter.working = none
  firstEdge : t.mon.firstEdge = false
  mismatch : (t.ref r).leapMismatch = true ↔ (s.ref r).leapMismatch = true ∧ t.mon.selection = some r
  disagree : t.att.flags.getLsbD 10 = s.att.flags.getLsbD 10

section
variable {s : State} {r : Ref} {u : UtcSecond}

theorem measure_steps (htime : s.tb.time = some u) (hfirst : s.mon.firstEdge = true) (hlarge : 100 < (phaseErrorOf s.phase).natAbs)
    (hheld : s.anyHoldsTime = false) : s.measure = s.stepPhase := by
  unfold State.measure
  dsimp only
  rw [if_neg (by rw [htime]; exact Bool.false_ne_true), if_pos ⟨hfirst, hlarge, hheld⟩]

/-- An edge in the first half of a second restarts it (R8, log 10). -/
theorem stepPhase_restarts (htime : s.tb.time = some u) (hsel : s.mon.selection = some r) (hp : s.phase < 500000) : s.Stepped r u s.stepPhase := by
  obtain ⟨⟨hztime, -, hzphase⟩, hzmon, -, hzidle, -, hzraises⟩ := stepping_stepping s
  have hstep := stepPhase_eq s
  rw [hztime, htime] at hstep
  replace hstep := hstep.trans (if_pos hp)
  generalize s.stepping = z at hztime hzphase hzmon hzidle hzraises hstep
  obtain ⟨y, hy⟩ : ∃ y : State, { z with tb := { z.tb with elapsed := 0 } } = y := ⟨_, rfl⟩
  rw [hy] at hstep
  have hymon : y.mon = { s.mon with firstEdge := false } := by rw [← hy]; exact hzmon
  have hyphase : y.tb.phaseError = 0 := by rw [← hy]; exact hzphase
  have hytime : y.tb.time = some u := by rw [← hy]; exact hztime.trans htime
  have hyelapsed : y.tb.elapsed = 0 := by rw [← hy]
  have hyatt : y.att = z.att := by rw [← hy]
  have hyref : y.ref r = s.ref r := by
    unfold State.ref
    rw [hymon]
  have htb := setLength_kept y.evaluate
  rw [(evaluate_followed y).kept] at htb
  obtain ⟨hfirst, hmismatch⟩ := evaluate_of_selected (s := y) (t := y.evaluate.setLength) (r := r) (by rw [hymon]; exact hsel) (by rw [hymon])
    (setLength_mon _)
  rw [hyref] at hmismatch
  rw [hstep]
  refine ⟨⟨?_, ?_, ?_⟩, ?_, hfirst, hmismatch, ?_⟩
  · rw [htb]; exact hytime
  · rw [htb]; exact hyelapsed
  · rw [htb]; exact evaluate_phaseError hyphase
  · refine (evaluate_setLength_keepsSeconds y).idle ?_
    rw [← hy]; exact hzidle
  · rw [setLength_att, (evaluate_raises y).bit rfl, hyatt, hzraises.bit rfl]

/-- An edge in the second half of a second begins the one that follows (R8, log 10), and moves the channel seconds with it (R120, log 23). -/
theorem stepPhase_begins (htime : s.tb.time = some u) (hsel : s.mon.selection = some r) (hp : ¬s.phase < 500000)
    (hkept : (s.secondAfter u).minute < minutesKept) : s.Stepped r (s.secondAfter u) s.stepPhase ∧
      (0 < s.tb.length → ∀ n : Fin 4, (s.chan n).inForce ≤ 50000 → (s.stepPhase.chan n).nextSecond =
        some (if (s.chan n).inForce = 0 then s.secondAfter u else s.secondAfter (s.secondAfter u))) := by
  obtain ⟨⟨hztime, hzlength, hzphase⟩, hzmon, hzcal, hzidle, hzforce, hzraises⟩ := stepping_stepping s
  have hstep := stepPhase_eq s
  rw [hztime, htime] at hstep
  replace hstep := hstep.trans (if_neg hp)
  generalize s.stepping = z at hztime hzlength hzphase hzmon hzcal hzidle hzforce hzraises hstep
  have hafter : ∀ w, z.secondAfter w = s.secondAfter w := secondAfter_cal hzcal
  have hkept' : ¬minutesKept ≤ (z.secondAfter u).minute := by rw [hafter]; exact not_le.mpr hkept
  have hnext : z.nextStationSecond true u =
      (((z.askLeap u).placeLabel (z.secondAfter u)).placeChannels (z.secondAfter u)).handOn (z.secondAfter u) := if_neg hkept'
  rw [hnext, hafter] at hstep
  obtain ⟨x, hx⟩ : ∃ x, (z.askLeap u).placeLabel (s.secondAfter u) = x := ⟨_, rfl⟩
  rw [hx] at hstep
  have hask := askLeap_calendarOnly u z
  have hxtb : x.tb = { z.tb with time := some (s.secondAfter u), elapsed := 0 } := by
    rw [← hx, hask]
    rfl
  have hxmon : x.mon = { s.mon with firstEdge := false } := by rw [← hx, ← hzmon, ← askLeap_mon u z]; rfl
  have hxatt : x.att = z.att := by rw [← hx, ← askLeap_att u z]; rfl
  have hxmeter : x.meter = z.meter := by
    rw [← hx]
    unfold State.askLeap
    split <;> rfl
  have hxchan : ∀ n, x.chan n = z.chan n := fun n => by rw [← askLeap_chan u n z, ← hx]; rfl
  have hxafter : ∀ w, x.secondAfter w = s.secondAfter w := fun w => by
    rw [← hafter, ← secondAfter_askLeap u w z, ← hx]
    rfl
  obtain ⟨y, hy⟩ : ∃ y, x.placeChannels (s.secondAfter u) = y := ⟨_, rfl⟩
  rw [hy] at hstep
  have hytb : y.tb = x.tb := by rw [← hy, placeChannels_tb]
  have hymon : y.mon = x.mon := by rw [← hy, placeChannels_mon]
  have hyatt : y.att = x.att := by rw [← hy]; rfl
  have hymeter : y.meter = x.meter := by rw [← hy]; rfl
  have hychan : ∀ n, (y.chan n).nextSecond = some (x.channelSecondNow (s.secondAfter u) (x.chan n)) := fun n => by
    rw [← hy]
    exact congrArg Channel.nextSecond (Four.get_map _ _ _)
  have hyref : y.ref r = s.ref r := by
    unfold State.ref
    rw [hymon, hxmon]
  obtain ⟨-, -, hphase, -, htimed, helapsed⟩ := handOn_tb_fields (s.secondAfter u) y
  have hkeeps := handOn_keepsSeconds (s.secondAfter u) y
  obtain ⟨hfirst, hmismatch⟩ := evaluate_of_selected (s := y) (t := y.handOn (s.secondAfter u)) (r := r)
    (by rw [hymon, hxmon]; exact hsel) (by rw [hymon, hxmon]) (handOn_mon _ _)
  rw [hyref] at hmismatch
  rw [hstep]
  refine ⟨⟨⟨?_, ?_, ?_⟩, ?_, hfirst, hmismatch, ?_⟩, fun hlength n hforce => ?_⟩
  · rw [htimed, hytb, hxtb]
  · rw [helapsed, hytb, hxtb]
  · rw [hphase]
    refine evaluate_phaseError ?_
    rw [hytb, hxtb]
    exact hzphase
  · refine hkeeps.idle ?_
    rw [hymeter, hxmeter]
    exact hzidle
  · rw [(handOn_raises_all _ y).bit rfl, hyatt, hxatt, hzraises.bit rfl]
  · have hxphase : x.phase = 0 := phase_zero (by rw [hxtb]) (by rw [hxtb]; exact hzlength ▸ hlength)
    have hxforce : (x.chan n).inForce = (s.chan n).inForce := by rw [hxchan, hzforce]
    rw [hkeeps.seconds, hychan, State.channelSecondNow, hxphase, hxforce]
    refine congrArg some ?_
    by_cases hzero : (s.chan n).inForce = 0
    · rw [if_pos ⟨rfl, hzero⟩, if_pos hzero]
    · have hbegun : ¬1000000 ≤ 0 + (s.chan n).inForce := by omega
      rw [if_neg fun hc => hzero hc.2, if_neg hbegun, if_neg hzero, hxafter]

end

end Sys2Proof.Machine
end

section
/-! An adoption (R8, R31, R32): the reference becomes the selection, and station time is placed in LOCKED. -/

namespace Sys2Proof.Machine

/-! ### The selection after an evaluation, for a candidate that is selected -/

section
variable {s : State} {r : Ref}

theorem selectionAfter_ne_none (hsel : s.mon.selection = some r) (hcand : (s.ref r).candidate = true) : s.selectionAfter ≠ none := by
  unfold State.selectionAfter
  rw [hsel]
  dsimp only
  rw [if_pos hcand]
  split <;> exact Option.some_ne_none _

/-- Without the revertive mark a selected candidate stays selected (R29). -/
theorem selectionAfter_stays (hsel : s.mon.selection = some r) (hcand : (s.ref r).candidate = true) (hrevertive : s.mon.revertive = false) :
    s.selectionAfter = some r := by
  unfold State.selectionAfter
  rw [hsel]
  dsimp only
  rw [if_pos hcand, hrevertive]
  rfl

theorem evaluate_agreement (r : Ref) (s : State) :
    (s.evaluate.ref r).agreement = (s.ref r).agreement ∧ (s.evaluate.ref r).carried = (s.ref r).carried := by
  rw [evaluate_ref]
  split <;> exact ⟨rfl, rfl⟩

theorem runsUpdated_selection (s : State) : s.runsUpdated.mon.selection = s.mon.selection := rfl

theorem runsUpdated_revertive (s : State) : s.runsUpdated.mon.revertive = s.mon.revertive := rfl

/-! ### A placement -/

theorem place_idle (u : UtcSecond) (s : State) : (s.place u).meter.working = none := by
  have hgraded : (s.relabelled u).deriveGrade.meter.working = none := by
    rw [deriveGrade_frame]
    exact abortMeasurement_idle s
  have hplaced : (s.placedAt u).meter.working = none := by
    have hprocedure := (discontinuity_keepsSeconds (graded_time s u)).idle hgraded
    rw [placedAt_eq]
    exact hprocedure
  rw [place_eq]
  exact (handOn_keepsSeconds u _).idle hplaced

/-- What a placement raises: not TIME DISAGREE and not LEAP DISAGREE. -/
theorem place_raises (u : UtcSecond) (s : State) : s.Raises 0x01EF (s.place u) := by
  have hrelabelled : s.Raises 0x01EF (s.relabelled u) := ((abortMeasurement_causes s).mono rfl).trans (.of_att rfl)
  have hgraded : s.Raises 0x01EF (s.relabelled u).deriveGrade := hrelabelled.trans ((deriveGrade_raises _).mono rfl)
  have hprocedure := hgraded.trans ((discontinuity_causes (graded_time s u)).mono rfl)
  have hplaced : s.Raises 0x01EF (s.placedAt u) := by
    rw [placedAt_eq]
    generalize (s.relabelled u).deriveGrade.discontinuity none = x at hprocedure
    exact hprocedure.trans (.of_att rfl)
  rw [place_eq]
  exact hplaced.trans (handOn_raises_all u _)

/-- A placement in LOCKED with a selected candidate stays LOCKED (R5, R13, R15). -/
theorem place_locked (hlocked : s.tb.state = .locked) (hsel : s.mon.selection = some r) (hcand : (s.ref r).candidate = true) (u : UtcSecond) :
    (s.place u).tb.state = .locked ∧ (s.place u).tb.grade = 0 ∧ (s.place u).tb.phaseError = 0 ∧ (s.place u).tb.elapsed = 0 ∧
      (s.mon.revertive = false → (s.place u).mon.selection = some r) ∧ ((s.place u).ref r).agreement = (s.ref r).agreement ∧
      ((s.place u).ref r).carried = (s.ref r).carried := by
  have hplaced := placedAt_tb s u
  rw [deriveGrade_tb, relabelled_tb, hlocked] at hplaced
  dsimp only at hplaced
  obtain ⟨hstate, -, hphase, hgrade, -, helapsed⟩ := handOn_tb_fields u (s.placedAt u)
  have hmon := handOn_mon u (s.placedAt u)
  have href : ((s.placedAt u).handOn u).ref r = (s.placedAt u).evaluate.ref r := ref_congr hmon r
  have hplacedRef : (s.placedAt u).ref r = s.ref r := ref_congr (placedAt_mon u s) r
  obtain ⟨hagreement, hcarried⟩ := evaluate_agreement r (s.placedAt u)
  have hruns : (s.placedAt u).runsUpdated.mon.selection = some r := by rw [runsUpdated_selection, placedAt_mon, hsel]
  have hrevertive : (s.placedAt u).runsUpdated.mon.revertive = s.mon.revertive := by rw [runsUpdated_revertive, placedAt_mon]
  have hcandidate : ((s.placedAt u).runsUpdated.ref r).candidate = true := by rw [runsUpdated_ref, evaluated_candidate, hplacedRef, hcand]
  have hselection := evaluate_selection (s.placedAt u)
  have hfits : (s.placedAt u).evaluate.mon.selection = none ↔ (s.placedAt u).tb.state ≠ .locked := by
    rw [hselection, hplaced]
    exact ⟨fun hno => absurd hno (selectionAfter_ne_none hruns hcandidate), fun hno => absurd hlocked hno⟩
  rw [place_eq, hstate, hgrade, hphase, helapsed, hmon, href, evaluate_kept_tb hfits, hagreement, hcarried, hplacedRef, hselection, hplaced]
  exact ⟨hlocked, rfl, rfl, rfl, fun hr => selectionAfter_stays hruns hcandidate (hrevertive.trans hr), rfl, rfl⟩

end

/-! ### The adoption -/

/-- The state that an adoption places: the reference selected and in agreement, the timebase LOCKED (R8, R31). -/
def State.adopting (r : Ref) (s : State) : State :=
  let t := s.select (some r) false
  let t := t.setRef r { t.ref r with agreement := true, carried := false }
  { t with tb := { t.tb with state := .locked }, mon := { t.mon with firstEdge := false } }

section
variable {s : State} {r : Ref} {l : Label}

theorem adopt_eq (hdate : dateExists (s.ret.century * 100 + l.year) l.month l.day = true) : s.adopt r l =
    (s.adopting r).place ⟨minuteOf (s.ret.century * 100 + l.year) l.month l.day l.hour l.minute, l.second⟩ := by
  have hret : (s.adopting r).ret = s.ret := by
    change ((s.select (some r) false).setRef r _).ret = _
    rw [State.setRef_ret, select_frame]
  have hminute : (s.adopting r).adoptedMinute l = minuteOf (s.ret.century * 100 + l.year) l.month l.day l.hour l.minute := by
    unfold State.adoptedMinute
    rw [hret]
    exact if_pos hdate
  change (s.adopting r).place ⟨(s.adopting r).adoptedMinute l, l.second⟩ = _
  rw [hminute]

/-- What an adoption leaves (R8, R31). -/
structure State.Adopted (s : State) (r : Ref) (u : UtcSecond) (t : State) : Prop where
  tb : t.tb.state = .locked ∧ t.tb.grade = 0 ∧ t.tb.phaseError = 0 ∧ t.tb.elapsed = 0 ∧ t.tb.time = some u
  ret : t.ret = { s.ret with century := centuryOf u.minute }
  selection : s.mon.revertive = false → t.mon.selection = some r
  record : (t.ref r).agreement = true ∧ (t.ref r).carried = false
  idle : t.meter.working = none
  link : t.link = s.link
  disagree : t.att.flags.getLsbD 10 = s.att.flags.getLsbD 10
  changed : s.mon.selection ≠ some r → t.att.flags.getLsbD 8 = true

theorem adopt_adopted (hq : (s.ref r).state = .qualified) (hdate : dateExists (s.ret.century * 100 + l.year) l.month l.day = true) :
    s.Adopted r ⟨minuteOf (s.ret.century * 100 + l.year) l.month l.day l.hour l.minute, l.second⟩ (s.adopt r l) := by
  obtain ⟨a, ha⟩ : ∃ a, s.adopting r = a := ⟨_, rfl⟩
  have hsel : a.mon.selection = some r := by
    rw [← ha]
    exact (State.setRef_selection _ _ _).trans (select_selection _ _ _)
  have hrevertive : a.mon.revertive = s.mon.revertive := by
    rw [← ha]
    exact (State.setRef_revertive _ _ _).trans (select_revertive _ _ _)
  have hlocked : a.tb.state = .locked := by rw [← ha]; rfl
  have hret : a.ret = s.ret := by
    rw [← ha]
    change ((s.select (some r) false).setRef r _).ret = _
    rw [State.setRef_ret, select_frame]
  have hatt : a.att = (s.select (some r) false).att := by
    rw [← ha]
    exact State.setRef_att _ _ _
  have href : a.ref r = { (s.select (some r) false).ref r with agreement := true, carried := false } := by
    rw [← ha, ← State.ref_setRef_same r { (s.select (some r) false).ref r with agreement := true, carried := false } (s.select (some r) false)]
    cases r <;> rfl
  have hstate : ((s.select (some r) false).ref r).state = .qualified := by
    rw [select_ref]
    split <;> exact hq
  have hcand : (a.ref r).candidate = true := by
    rw [RefRecord.candidate_iff, href]
    exact ⟨hstate, rfl⟩
  have hblocks := adopt_blocksOnly r l s
  have hadopt := adopt_eq (r := r) hdate
  rw [ha] at hadopt
  obtain ⟨u, hu⟩ : ∃ u : UtcSecond, ⟨minuteOf (s.ret.century * 100 + l.year) l.month l.day l.hour l.minute, l.second⟩ = u := ⟨_, rfl⟩
  rw [hu] at hadopt ⊢
  obtain ⟨hstate', hgrade, hphase, helapsed, hselection, hagreement, hcarried⟩ := place_locked hlocked hsel hcand u
  have hraises := place_raises u a
  refine ⟨?_, ?_, fun hr => ?_, ?_, ?_, hblocks.link, ?_, fun hne => ?_⟩
  · rw [hadopt]
    exact ⟨hstate', hgrade, hphase, helapsed, place_time u a⟩
  · rw [hadopt, place_ret, hret]
  · rw [hadopt]
    exact hselection (hrevertive.trans hr)
  · rw [hadopt, hagreement, hcarried, href]
    exact ⟨rfl, rfl⟩
  · rw [hadopt]
    exact place_idle u a
  · rw [hadopt, hraises.bit rfl, hatt, select_att]
    dsimp only
    split
    · rfl
    · rw [BitVec.getLsbD_or]
      exact Bool.or_false _
  · rw [hadopt]
    refine hraises.stands ?_
    rw [hatt, select_att]
    dsimp only
    rw [if_neg (Ne.symm hne), BitVec.getLsbD_or]
    exact Bool.or_true _

end

end Sys2Proof.Machine
end

section
/-! GOOD edges (R6 to R8, R27, R28, R30 to R33, R35): the cases put together. -/

namespace Sys2Proof.Machine

section
variable {s g : State} {d : Nat} {r : Ref} {m : Message} {u : UtcSecond}

theorem edgeFlags_disagree (s : State) (r : Ref) (m : Message) : (s.edgeFlags r m).getLsbD 10 =
    (s.att.flags.getLsbD 10 || decide (s.leapMatches m = false ∧ (s.ref r).leapMismatch = false)) := by
  have hqualified : (if (s.ref r).state = .qualified then s.att.flags else s.att.flags ||| 0x0100 : BitVec 13).getLsbD 10 = s.att.flags.getLsbD 10 := by
    split
    · rfl
    · rw [BitVec.getLsbD_or]
      exact Bool.or_false _
  rw [State.edgeFlags, State.leapCause, BitVec.getLsbD_or, hqualified]
  refine congrArg (s.att.flags.getLsbD 10 || ·) ?_
  by_cases h : s.leapMatches m = false ∧ (s.ref r).leapMismatch = false
  · rw [if_pos h, decide_eq_true h]
    rfl
  · rw [if_neg h, decide_eq_false h]
    rfl

/-- The station second nearest the edge `d` periods on, in the second `u` (R8, R28). -/
def State.nearest (s : State) (d : Nat) (u : UtcSecond) : UtcSecond := if (s.elapse d).phase < 500000 then u else s.secondAfter u

theorem nearestLabel_iff {l : Label} : (s.elapse d).nearestLabel = some l ↔ ∃ u, s.tb.time = some u ∧ labelOfSecond (s.nearest d u) = l :=
  Option.map_eq_some_iff

/-- A GOOD edge at a first selection steps station time to it (R8, R30). -/
theorem edged_steps (h : s.Edged d r m g) (hsel : s.mon.selection = some r) (htime : s.tb.time = some u) (hfirst : s.mon.firstEdge = true)
    (hlarge : 100 < (phaseErrorOf (s.elapse d).phase).natAbs) (hheld : s.anyHoldsTime = false) (hkept : (s.nearest d u).minute < minutesKept) :
    ∃ w, s.Compared d r m { g.ref r with carried := false } w ∧ w.Stepped r (s.nearest d u) (g.goodEdge r m.label) ∧
      (500000 ≤ (s.elapse d).phase → 0 < s.tb.length → ∀ n : Fin 4, (s.chan n).inForce ≤ 50000 → ((g.goodEdge r m.label).chan n).nextSecond =
        some (if (s.chan n).inForce = 0 then s.nearest d u else s.secondAfter (s.nearest d u))) := by
  have hcompared := h.compared
  rw [goodEdge_selected (h.selection.trans hsel)]
  generalize (g.uncarried r).checkLeap r = w at hcompared
  refine ⟨w, hcompared, ?_⟩
  obtain ⟨hframe, -, hselection, -, hfirst'⟩ := hcompared
  have hwphase : w.phase = (s.elapse d).phase := by rw [hframe]; rfl
  have hwheld : w.anyHoldsTime = s.anyHoldsTime := by rw [hframe]; rfl
  have hwtime : w.tb.time = some u := by rw [hframe]; exact htime
  have hwlength : w.tb.length = s.tb.length := by rw [hframe]; rfl
  have hwafter : ∀ v, w.secondAfter v = s.secondAfter v := secondAfter_cal (by rw [hframe]; rfl)
  have hwchan : ∀ n, w.chan n = s.chan n := fun n => by rw [hframe]; rfl
  have hwsel : w.mon.selection = some r := hselection.trans hsel
  rw [measure_steps hwtime (hfirst'.trans hfirst) (by rw [hwphase]; exact hlarge) (by rw [hwheld]; exact hheld)]
  by_cases hp : (s.elapse d).phase < 500000
  · have hnearest : s.nearest d u = u := if_pos hp
    rw [hnearest]
    exact ⟨stepPhase_restarts hwtime hwsel (by rw [hwphase]; exact hp), fun hp' => absurd hp (not_lt.mpr hp')⟩
  · have hnearest : s.nearest d u = s.secondAfter u := if_neg hp
    rw [hnearest] at hkept ⊢
    obtain ⟨hstepped, hseconds⟩ := stepPhase_begins hwtime hwsel (by rw [hwphase]; exact hp) (by rw [hwafter]; exact hkept)
    rw [hwafter] at hstepped
    refine ⟨hstepped, fun _ hlength n hforce => ?_⟩
    have hsecond := hseconds (by rw [hwlength]; exact hlength) n (by rw [hwchan]; exact hforce)
    rw [hwchan, hwafter, hwafter] at hsecond
    exact hsecond

/-- The second that an adoption of the label places, its year completed with the held century (R2, R8). -/
def State.labelled (s : State) (l : Label) : UtcSecond :=
  ⟨minuteOf (s.ret.century * 100 + l.year) l.month l.day l.hour l.minute, l.second⟩

/-- What an edge leaves to an adoption. -/
theorem adopted_of_frame {x : State} (hframe : x = { s.elapse d with mon := x.mon, att := { s.att with flags := x.att.flags } })
    (hq : (x.ref r).state = .qualified) (hdate : dateExists (s.ret.century * 100 + m.label.year) m.label.month m.label.day = true) :
    x.Adopted r (s.labelled m.label) (x.adopt r m.label) := by
  have hret : x.ret = s.ret := by rw [hframe]; rfl
  have hadopted := adopt_adopted (l := m.label) hq (by rw [hret]; exact hdate)
  rw [hret] at hadopted
  exact hadopted

/-- With none selected, a reference is adopted at its edge (R8, R31). -/
theorem edged_adopts (h : s.Edged d r m g) (hsel : s.mon.selection = none) (htakes : (s.ref r).carried = true ∨ (g.ref r).agreement = false)
    (hmay : s.mayAdopt = true) (hl : m.label.second ≠ 60)
    (hdate : dateExists (s.ret.century * 100 + m.label.year) m.label.month m.label.day = true) :
    (g.uncarried r).Adopted r (s.labelled m.label) (g.goodEdge r m.label) := by
  rw [goodEdge_adopts (h.selection.trans hsel) h.state (by rw [h.carried]; exact htakes) (by rw [h.mayAdopt]; exact hmay), adoptOrCarry_adopts hl]
  refine adopted_of_frame (d := d) ?_ (by rw [uncarried_ref]; exact h.state) hdate
  have hatt : (g.uncarried r).att = g.att := by rw [uncarried_frame]
  refine h.of_mon ?_
  rw [hatt]
  exact uncarried_frame g r

/-- The state in which a waiting ADOPT REFERENCE adopts (R32, R33). -/
theorem edged_requested (h : s.Edged d r m g) (hheld : s.anyHoldsTime = false) (hl : m.label.second ≠ 60)
    (hdate : dateExists (s.ret.century * 100 + m.label.year) m.label.month m.label.day = true) :
    ∃ x t : State, g.adoptRequested r m.label = { t with link := .replyHeld [0x12, 0x00] } ∧ x.Adopted r (s.labelled m.label) t ∧
      x.ret = s.ret ∧ x.mon.revertive = s.mon.revertive ∧ x.att.flags.getLsbD 10 =
        (s.att.flags.getLsbD 10 || decide (s.mon.selection = some r ∧ s.leapMatches m = false ∧ (s.ref r).leapMismatch = false)) := by
  have hrequested := adoptRequested_adopts (l := m.label) h.state (by rw [h.anyHoldsTime, hheld]; exact Bool.false_ne_true) hl
  by_cases hsel : s.mon.selection = some r
  · rw [if_pos (h.selection.trans hsel)] at hrequested
    obtain ⟨hframe, href, -, hrevertive, -⟩ := h.checked
    generalize g.checkLeap r = x at hrequested hframe href hrevertive
    have hflags : x.att.flags = s.edgeFlags r m := by rw [hframe]
    refine ⟨x, _, hrequested, adopted_of_frame (s := s) (d := d) ?_ (by rw [href]; exact h.state) hdate, by rw [hframe]; rfl, hrevertive, ?_⟩
    · rw [hflags]
      exact hframe
    · rw [hflags, edgeFlags_disagree]
      refine congrArg (s.att.flags.getLsbD 10 || ·) (decide_eq_decide.mpr ?_)
      exact ⟨fun hm => ⟨hsel, hm⟩, fun hm => hm.2⟩
  · rw [if_neg fun hg => hsel (h.selection.symm.trans hg)] at hrequested
    refine ⟨g, _, hrequested, adopted_of_frame (h.of_mon rfl) h.state hdate, by rw [h.frame]; rfl, h.revertive, ?_⟩
    have hno : decide (s.mon.selection = some r ∧ s.leapMatches m = false ∧ (s.ref r).leapMismatch = false) = false :=
      decide_eq_false fun hm => hsel hm.1
    rw [hno, Bool.or_false, h.frame]
    dsimp only
    split
    · rfl
    · rw [BitVec.getLsbD_or]
      exact Bool.or_false _

end


/-- Settles O21: the edge by its verdict, and what it then does by the request that waits, the selection, the agreement and the carried adoption. -/
theorem goodEdgesMeasureOrAdopt : Obligations.GoodEdgesMeasureOrAdopt := by
  intro d pulse a r m s hr hpulse x us now hqualifies hanchor hearly hlate hheld hclean hvalid hfollows htimed hleap edge period nominal p e nearest
    agrees year minute holdsTime inService waits flags reported takes announced mismatch newMismatch adopted
  obtain ⟨g, hg, hedge⟩ := exec_goodEdge hr hpulse (m := m) (a := a) (now := now)
    ⟨hqualifies, hanchor, rfl, hearly, hlate, hheld, hclean, hvalid, hfollows, htimed, hleap⟩
  have hedge : edge = .next (if waits then g.adoptRequested r m.label else g.goodEdge r m.label) := hedge
  have hagrees : (g.ref r).agreement = true ↔ agrees := hg.agreement.trans nearestLabel_iff
  have hdisagrees : (g.ref r).agreement = false ↔ ¬agrees := by rw [← hagrees, Bool.not_eq_true]
  have hmay : s.mayAdopt = true ↔ s.tb.state = .unset ∨ ¬inService := mayAdopt_iff
  have hholds : s.anyHoldsTime = true ↔ holdsTime := anyHoldsTime_iff
  have hunheld : ¬holdsTime → s.anyHoldsTime = false := fun h => Bool.eq_false_iff.mpr (mt hholds.mp h)
  have hmismatch : s.leapMatches m = false ↔ mismatch := by
    rw [← Bool.not_eq_true, leapMatches_iff]
  have hnewMismatch : (s.leapMatches m = false ∧ (s.ref r).leapMismatch = false) ↔ newMismatch := and_congr_left fun _ => hmismatch
  have htakes : takes → ((s.ref r).carried = true ∨ (g.ref r).agreement = false) ∧ s.mayAdopt = true := fun h =>
    ⟨h.1.imp id hdisagrees.mpr, hmay.mpr h.2⟩
  have hgflags : g.att.flags = flags := by rw [hg.frame]
  have hgood : ¬waits → edge = .next (g.goodEdge r m.label) := fun h => by rw [hedge, if_neg h]
  have hrequested : waits → edge = .next (g.adoptRequested r m.label) := fun h => by rw [hedge, if_pos h]
  have hadopted : ∀ y t : State, y.ret = s.ret → y.mon.revertive = s.mon.revertive → y.Adopted r (s.labelled m.label) t → adopted t := by
    rintro y t hret hrevertive ⟨⟨hlocked, hgrade, hphase, helapsed, htime⟩, htret, hselection, ⟨hagreement, hcarried⟩, hidle, -, -, -⟩
    rw [hret] at htret
    exact ⟨hlocked, hgrade, hphase, helapsed, htime, htret, fun h => hselection (hrevertive.trans h), hagreement, hcarried, hidle⟩
  refine ⟨fun hw hsel hlocked htime hstays => ?measured, fun u hw hsel htime hfirst hlarge hh hkept => ?stepped, fun hw hsel => ?other,
    fun hw hsel htakes' hagrees' => ?agrees, fun hw hsel htakes' hl hdate => ?adopts, fun hw hsel htakes' hl => ?carries,
    fun hw hsel hdis hset hin => ?reports, fun hw hh hl hdate => ?requested, fun hw hh hl => ?waits, fun hw hh => ?refused⟩
  case measured =>
    obtain ⟨t, ht, htsel, htfirst, htref, htframe, hkept, hbelow, habove⟩ := edged_measures hg hsel hlocked htime (e := e) rfl
      (hstays.imp id (Or.imp id hholds.mpr))
    refine ⟨t, (hgood hw).trans (congrArg Host.Outcome.next ht), htsel, htfirst, ?_, ?_, ?_, ?_, hkept, hbelow, fun he hsound => ?_⟩
    · rw [htref]; exact hagrees
    · rw [htref]
    · rw [htref, ← hmismatch]
      simp
    · refine htframe.trans (congrArg (fun f : BitVec 13 => ({ s.elapse d with tb := t.tb, mon := t.mon, att := { s.att with flags := f } } : State)) ?_)
      rw [State.edgeFlags, State.leapCause]
      exact congrArg₂ (fun x y : BitVec 13 => flags ||| x ||| y) (if_congr hnewMismatch rfl rfl) rfl
    · exact habove he hsound
  case stepped =>
    have hnearest : s.nearest d u = nearest u := rfl
    obtain ⟨w, ⟨hframe, href, -, -, -⟩, ⟨⟨httime, htelapsed, htphase⟩, hidle, htfirst, htmismatch, htdisagree⟩, hseconds⟩ :=
      edged_steps hg hsel htime hfirst hlarge (hunheld hh) (by rw [hnearest]; exact hkept)
    refine ⟨_, hgood hw, httime, htelapsed, htphase, hidle, htfirst, ?_, ?_, hseconds⟩
    · rw [htmismatch, href, ← hmismatch]
      simp
    · rw [htdisagree, hframe]
      refine (edgeFlags_disagree s r m).trans (congrArg (s.att.flags.getLsbD 10 || ·) (decide_eq_decide.mpr hnewMismatch))
  case other =>
    have hother := goodEdge_other (l := m.label) (hg.selection.trans hsel) (otherRef_ne r)
    refine ⟨_, (hgood hw).trans (congrArg Host.Outcome.next hother), hg.uncarried, ?_, ?_, ?_, ?_, ?_, ?_⟩
    · rw [uncarried_selection, hg.selection]
    · rw [State.uncarried, State.ref_setRef_other, hg.other]
    · rw [uncarried_ref]; exact hg.state
    · rw [uncarried_ref]; exact hagrees
    · rw [uncarried_ref]
    · rw [uncarried_ref]; exact hg.mismatch
  case agrees =>
    have hno : ¬((g.ref r).carried = true ∧ g.mayAdopt = true) := by
      rintro ⟨hcarried, hm⟩
      rw [hg.carried] at hcarried
      rw [hg.mayAdopt] at hm
      exact htakes' ⟨.inl hcarried, hmay.mp hm⟩
    have hkept := goodEdge_agrees (l := m.label) (hg.selection.trans hsel) hno (hagrees.mpr hagrees')
    refine ⟨_, (hgood hw).trans (congrArg Host.Outcome.next hkept), hg.uncarried, ?_, ?_, ?_⟩
    · rw [uncarried_ref]; exact hagrees.mpr hagrees'
    · rw [uncarried_ref]
    · rw [uncarried_selection, hg.selection, hsel]
  case adopts =>
    obtain ⟨hdue, hm⟩ := htakes htakes'
    have hadopt := edged_adopts hg hsel hdue hm hl hdate
    refine ⟨_, hgood hw, hadopted _ _ ?_ ?_ hadopt, ?_, fun hzero => ?_⟩
    · rw [hg.uncarried]; rfl
    · rw [uncarried_revertive, hg.revertive]
    · rw [hadopt.link, hg.uncarried]; rfl
    · have hchanged := hadopt.changed (by rw [uncarried_selection, hg.selection, hsel]; exact (Option.some_ne_none r).symm)
      have hbit := congrArg (fun x : BitVec 13 => x.getLsbD 8) hzero
      rw [BitVec.getLsbD_and, hchanged] at hbit
      cases hbit
  case carries =>
    obtain ⟨hdue, hm⟩ := htakes htakes'
    obtain ⟨t, ht, hframe, hcarried, hagreement, htsel⟩ := edged_carries hg hsel hdue hm hl
    exact ⟨t, (hgood hw).trans (congrArg Host.Outcome.next ht), hframe, hcarried, by rw [hagreement]; exact hagrees, htsel⟩
  case reports =>
    have hm : s.mayAdopt ≠ true := fun h => (hmay.mp h).elim hset fun h => h hin
    obtain ⟨t, ht, hframe, htsel, hreported, hcarried, hflags⟩ := edged_reports hg hsel hm (hdisagrees.mpr hdis)
    refine ⟨t, (hgood hw).trans (congrArg Host.Outcome.next ht), hframe, htsel, hreported, hcarried, ?_⟩
    rw [hflags, hgflags]
    exact if_congr hg.reported rfl rfl
  case requested =>
    obtain ⟨y, t, ht, hadopt, hret, hrevertive, hbit⟩ := edged_requested hg (hunheld hh) hl hdate
    obtain ⟨hlocked, hgrade, hphase, helapsed, htime, htret, hselection, hagreement, hcarried, hidle⟩ := hadopted y t hret hrevertive hadopt
    refine ⟨_, (hrequested hw).trans (congrArg Host.Outcome.next ht),
      ⟨hlocked, hgrade, hphase, helapsed, htime, htret, hselection, ?_, ?_, hidle⟩, rfl, ?_⟩
    · exact (congrArg RefRecord.agreement (ref_congr (s := t) rfl r)).trans hagreement
    · exact (congrArg RefRecord.carried (ref_congr (s := t) rfl r)).trans hcarried
    · refine (hadopt.disagree.trans hbit).trans (congrArg (s.att.flags.getLsbD 10 || ·) (decide_eq_decide.mpr ?_))
      exact and_congr_right fun _ => hnewMismatch
  case waits =>
    have hh' : g.anyHoldsTime ≠ true := by rw [hg.anyHoldsTime, hunheld hh]; exact Bool.false_ne_true
    refine ⟨_, (hrequested hw).trans (congrArg Host.Outcome.next (adoptRequested_waits hg.state hh' hl)), ?_⟩
    rw [(goodEdge_blocksOnly r m.label g).link, hg.link]
  case refused =>
    have hh' : g.anyHoldsTime = true := by rw [hg.anyHoldsTime, hholds]; exact hh
    refine ⟨_, (hrequested hw).trans (congrArg Host.Outcome.next (adoptRequested_refused hg.state hh')), ?_⟩
    rw [(goodEdge_blocksOnly r m.label _).link]
    rfl


end Sys2Proof.Machine
end
